-- ==== Sys2Proof/Word.lean ====
section
/-! DEFINITION. The plainest data of the model: bytes and words of a mailbox window, the three ports, the six stations. -/

namespace Sys2Proof

/-- A byte of a mailbox window or of the frame store. -/
abbrev Byte := BitVec 8

/-- A 16-bit quantity: a command code, a record id, an image id, a converter code. -/
abbrev Word16 := BitVec 16

/-- A 32-bit counter. -/
abbrev Word32 := BitVec 32

/-- One of the three mailbox ports (R187), numbered PA 0, PB 1, PC 2 (R193). -/
inductive Port where
  | pa | pb | pc
deriving DecidableEq, Repr

/-- A turret station 0..5 (R65). -/
abbrev Station := Fin 6

/-- A slot of the job table, 0..15 (R1). -/
abbrev Slot := Fin 16

/-- A job handle: slot number plus 16 times the slot's generation (R1). -/
abbrev Handle := BitVec 8

/-- One value for each port. -/
structure PerPort (α : Type) where
  a : α
  b : α
  c : α
deriving DecidableEq, Repr

end Sys2Proof
end

