-- ==== Sys2Proof/Syntax.lean ====
section
/-! DEFINITION. The commands of the block: one constructor for each row of spec/opcode_table.json, in the table's order.
A mailbox command carries the port it is taken on; its parameters stand in that port's command block (R190). -/

namespace Sys2Proof

/-- A step that the motor driver reports: the index sensor's level at the position reached (R67), and whether the step is
late, asked for before the last RESET or by another motion that is over (R66, R78; log entry 35). -/
structure StepReport where
  sensor : Bool
  late : Bool := false
deriving DecidableEq, Repr

/-- The first byte of a frame-store self-test item that did not read back what was written (R183): the fill it was found
in (0..3 for the fills 85, 170, 0, 255 of the pattern item; not read for the address item), its place, and the value read. -/
structure BadByte where
  fill : Fin 4
  buffer : Fin 2
  row : Fin 960
  col : Fin 960
  read : Byte
deriving DecidableEq, Repr

/-- A command or event of the HC-260. -/
inductive Instr where
  -- mailbox commands, taken on a port (R190)
  | jobOpen (p : Port)
  | pointsAdd (p : Port)
  | jobHold (p : Port)
  | jobUnhold (p : Port)
  | jobCancel (p : Port)
  | jobSetPriority (p : Port)
  | jobQuery (p : Port)
  | resultTake (p : Port)
  | resultFree (p : Port)
  | resultFreeOldest (p : Port)
  | resultRead (p : Port)
  | imageRead (p : Port)
  | mapClear (p : Port)
  | stageSettled (p : Port)
  | stageFailed (p : Port)
  | stationWrite (p : Port)
  | stationRead (p : Port)
  | forceCurveWrite (p : Port)
  | forceCurveRead (p : Port)
  | conversionWrite (p : Port)
  | conversionRead (p : Port)
  | verifyTableRead (p : Port)
  | settingsWrite (p : Port)
  | settingsRead (p : Port)
  | headStop (p : Port)
  | headResume (p : Port)
  | arbSetLast (p : Port)
  | selftest (p : Port)
  | portConfig (p : Port)
  | badCommand (p : Port)
  -- control-word writes (R189) and the SPI write transaction (R188)
  /-- A control-word write of POSTED with this tag and code. -/
  | post (p : Port) (tag : Byte) (code : Word16)
  | withdraw (p : Port)
  | acknowledge (p : Port)
  /-- A control-word write of these four bytes. -/
  | controlWriteIgnored (p : Port) (state tag : Byte) (code : Word16)
  /-- The whole bytes of one SPI transaction, from the frame command on (R188). -/
  | windowWrite (p : Port) (frame : List Byte)
  -- pins
  | reset
  | stopLineAssert
  | topLimitActive
  | topLimitLost
  -- turret
  /-- The motor driver reports a step (R67). -/
  | stepReported (report : StepReport)
  | travelEnd
  | strokeEnd
  | homingPlaced
  | noMark
  | rotationTimeout
  | homeTimeout
  -- acquisition and actuator
  /-- A round ends with these force codes, in order, and this depth code (R81). -/
  | roundEnd (force : List Word16) (depth : Word16)
  | referenceRoundEnd (force : List Word16) (depth : Word16)
  | loadTimeout
  | dwellDone
  | stallTimerExpiry
  -- capture and measurement
  | exposureEnd
  | pixelValue (value : Nat)
  | lineSumWord (word : Word16)
  | frameEndMarker
  | frameTimeout
  | tailWaitExpiry
  | measurementEnd
  | settleTimerExpiry
  /-- A frame-store item ends: with every byte read back as written, or with the first that did not. -/
  | framestoreItemEnd (bad : Option BadByte)
  -- attention pulses and the STOP line's release
  | attnPulseEnd (p : Port)
  | attnPulseStart (p : Port)
  | stopLineRelease
deriving DecidableEq, Repr

end Sys2Proof
end

