-- ==== Sys2Proof/Config.lean ====
section
/-! DEFINITION. What the part fixes, as numbers the spec states, and the free values: opaque constants without a body
that stand for what the spec leaves open. -/

namespace Sys2Proof.Config

/-- Point slots (R4). -/
def pointSlots : Nat := 256
/-- Result slots (R154). -/
def resultSlots : Nat := 96
/-- Indent map entries (R166). -/
def mapEntries : Nat := 64
/-- Verification entries (R177). -/
def verifEntries : Nat := 12
/-- Frame-store rows and columns of one buffer (R103). -/
def frameSide : Nat := 960
/-- Bytes of one buffer (R103). -/
def bufferBytes : Nat := 921600
/-- Sensor columns (R104). -/
def sensorCols : Nat := 1280
/-- Sensor rows (R104). -/
def sensorRows : Nat := 1024
/-- Retract speed in µm/s (R88). -/
def retractSpeed : Nat := 1000
/-- Motor steps to a revolution (R65). -/
def stepsPerTurn : Nat := 14400
/-- Steps of the approach stroke (R71). -/
def strokeSteps : Nat := 160
/-- Steps of the homing placement (R75). -/
def placeSteps : Nat := 20
/-- Steps of the homing search after which NO_MARK follows (R75). -/
def searchLimit : Nat := 18000
/-- Rotation timer, ms (R72). -/
def rotationTimeoutMs : Nat := 4000
/-- Homing timer, ms (R77). -/
def homingTimeoutMs : Nat := 15000
/-- Stall timer, ms (R89). -/
def stallTimeoutMs : Nat := 8000
/-- Tail wait, ms, and the margin of the frame timer (R110, R115). -/
def frameMarginMs : Nat := 250

/-- FREE VALUE (log entry 12): when a pixel value is out of range and also arrives with the line count at 1024, whether
the corruption is recorded as PIXEL_RANGE (true) or LONG_FRAME (false). R105 and R106 give no order. -/
opaque rangeBeforeLong : Bool

/-- FREE VALUE (log entry 13): the location word of a failed frame-store item for a buffer, row and column. R186 gives
one data word and no packing. -/
opaque locationWord : Nat → Nat → Nat → BitVec 32

/-- FREE VALUE (log entry 14): whether a measurement pass completes one more sub-step in the n-th millisecond. -/
opaque measureAdvance : Nat → Bool

/-- FREE VALUE (log entry 15): which of its possible values the byte at an address holds after the n-th frame-store
item was abandoned. -/
opaque residueChoice : Nat → Nat → Nat

end Sys2Proof.Config
end

