-- ==== Sys2Proof/Machine/State.lean ====
section
/-! DEFINITION. Everything the spec lets the HC-260 hold, as plain data, one structure for each block, and the machine
right after reset. -/

namespace Sys2Proof.Machine

/-- The model stops on nothing: no command of the table is given no effect by the spec, and every access to the frame
store stays inside it by construction. No constructor, so safe. -/
inductive Fault where
deriving DecidableEq, Repr

/-- The refusals of the model. -/
inductive Refusal where
  /-- Raised by an arm of `exec` whose row has no meaning yet (no arm of this model raises it). Safe. -/
  | notModelled (mnemonic : String)
deriving DecidableEq, Repr

/-! ## Mailbox ports (R187, R197) -/

/-- The mailbox states, coded 0 to 3 in byte 0x000 (R187). -/
inductive MailboxState where
  | empty | posted | working | answered
deriving DecidableEq, Repr

/-- The attention modes (R197), LEVEL 0 and PULSE 1. -/
inductive AttnMode where
  | level | pulse
deriving DecidableEq, Repr

/-- What the part keeps for one port (R187) and the pulse of its attention line (R197). -/
structure Mailbox where
  state : MailboxState := .empty
  tag : Byte := 0
  code : Word16 := 0
  /-- 0x004–0x0FF, 252 bytes. -/
  block : List Byte := List.replicate 252 0
  /-- 0x100–0x1FF, 256 bytes. -/
  response : List Byte := List.replicate 256 0
  mode : AttnMode := .level
  prev : Word16 := 0
  pulseActive : Bool := false
  pulseScheduled : Bool := false
deriving DecidableEq, Repr

/-- An SPI transaction in progress on a port, its select asserted and not yet released (R188): the whole bytes received, the
frame command first, and the copy of the window that a read takes with its second address byte. -/
structure SpiTransfer where
  bytes : List Byte := []
  copy : Option (List Byte) := none
deriving DecidableEq, Repr

/-! ## Jobs and points (R1 to R5) -/

/-- Job kinds: MEASURE 0, OFFSET_CAL 1, VERIFY 2. -/
inductive JobKind where
  | measure | offsetCal | verify
deriving DecidableEq, Repr

/-- Illumination: SINGLE 0, PAIRED 1. -/
inductive Illum where
  | single | paired
deriving DecidableEq, Repr

/-- The test parameters of a job (R2). `threshold` is absent for AUTO; `reference` and `tolerance` are present only in
a VERIFY job. -/
structure JobParams where
  kind : JobKind
  priority : Nat
  burst : Nat
  specimen : Nat
  indenter : Station
  objective : Station
  force : Nat
  loadTime : Nat
  dwell : Nat
  approach : Nat
  travel : Nat
  roi : Nat
  illum : Illum
  threshold : Option Nat
  useFallback : Bool
  convert : Bool
  reference : Option Nat
  tolerance : Option Nat
deriving DecidableEq, Repr

/-- List states of a job (R2), OPEN 0 and CLOSED 1. -/
inductive ListState where
  | opened | closed
deriving DecidableEq, Repr

/-- A job entry (R2). -/
structure Job where
  params : JobParams
  owner : Port
  openSeq : Word32
  list : ListState := .opened
  cancelling : Bool := false
  held : Bool := false
  added : Nat := 0
  ok : Nat := 0
  failed : Nat := 0
  skipped : Nat := 0
  voided : Nat := 0
  nextIndex : Nat := 0
deriving DecidableEq, Repr

/-- The accumulation of a job slot (R179, R181). -/
structure Accum where
  hardness : Int := 0
  x : Int := 0
  y : Int := 0
  count : Nat := 0
deriving DecidableEq, Repr

/-- A slot of the job table: its generation, its job if it holds one, and its accumulation. -/
structure JobSlot where
  gen : BitVec 4 := 0
  job : Option Job := none
  acc : Accum := {}
deriving DecidableEq, Repr

/-- Point states (R4). -/
inductive PointState where
  | pending | granted
deriving DecidableEq, Repr

/-- A point of the store (R4) with the slot of the job it belongs to. -/
structure Point where
  slot : Slot
  index : Nat
  tag : Nat
  x : Int
  y : Int
  state : PointState := .pending
deriving DecidableEq, Repr

/-! ## Faults and the head arbiter (R20 to R37) -/

/-- Fault codes (R33, R193). -/
inductive FaultCode where
  | stop | overload | actuatorStall | turretFault | cameraTimeout | homeFail | selftestFail
deriving DecidableEq, Repr

/-- Sub-reasons (R77, R193); the sub-reason none is an absent one. -/
inductive SubReason where
  | markMismatch | rotationTimeout | interlock | notHomed | inMotion | noMark | markUnknown | homeTimeout
deriving DecidableEq, Repr

/-- Head states (R20). -/
inductive HeadState where
  | unready | idle | busy | selftest | halted | recovering
deriving DecidableEq, Repr

/-- Wait conditions (R24). -/
inductive WaitCond where
  | none | noWork | waitResults
deriving DecidableEq, Repr

/-- A fault record (R33). -/
structure FaultRecord where
  code : FaultCode
  sub : Option SubReason
  head : HeadState
  point : Option (Handle × Nat)
deriving DecidableEq, Repr

/-- The head arbiter. `testFault` is the fault recorded during the running self-test (R33). `due` is the model's own
latch of a decision event inside one step; it is clear between steps (log entry 8). -/
structure Arbiter where
  head : HeadState := .unready
  wait : WaitCond := .none
  holder : Option Handle := none
  burst : Nat := 0
  rotation : List Port := [.pa, .pb, .pc]
  first : Option FaultRecord := none
  last : Option FaultRecord := none
  testFault : Bool := false
  due : Bool := false
deriving DecidableEq, Repr

/-! ## The cycle controller and the stage order unit (R38, R40) -/

/-- Cycle states (R38). -/
inductive CycleState where
  | idle | positioning | indenting | viewing | capturing | measuring | clearing
deriving DecidableEq, Repr

/-- Record statuses: OK, ABORTED and the failure reasons (R55, R200). -/
inductive Status where
  | ok | aborted | stageFailed | stageTimeout | noContact | loadTimeout | dwellUnstable | imageCorrupt
  | lowContrast | noEdge | edgeClipped | overload | actuatorStall | turretFault | cameraTimeout
deriving DecidableEq, Repr

/-- The granted point as the cycle controller holds it (R38, R39). -/
structure Granted where
  handle : Handle
  slot : Slot
  index : Nat
  tag : Nat
  x : Int
  y : Int
deriving DecidableEq, Repr

/-- The measured values the hardness unit is handed (R52, R133, R138): lengths in px/16, diagonals and offsets in nm. -/
structure Measured where
  lx : Int
  ly : Int
  dx : Int
  dy : Int
  offX : Int
  offY : Int
  small : Bool
deriving DecidableEq, Repr

/-- The known values of the point (R38), each absent until produced. -/
structure Known where
  force : Option Int := none
  dwellTime : Option Nat := none
  depth : Option Int := none
  imageId : Option Word16 := none
  hEff : Option Nat := none
  roiReduced : Option Bool := none
  measured : Option Measured := none
deriving DecidableEq, Repr

/-- The cycle controller (R38). -/
structure Cycle where
  state : CycleState := .idle
  granted : Option Granted := none
  pendStage : Bool := false
  pendTurret : Bool := false
  pendActuator : Bool := false
  objective : Option Station := none
  fallbackUsed : Bool := false
  retryUsed : Bool := false
  contactMade : Bool := false
  outcome : Option Status := none
  haltOnEnd : Bool := false
  known : Known := {}
deriving DecidableEq, Repr

/-- Kinds of move order: INDENT_POS 0, VIEW_POS 1. -/
inductive OrderKind where
  | indentPos | viewPos
deriving DecidableEq, Repr

/-- Order statuses, PENDING 1 to WITHDRAWN 5 (R194); NONE 0 is an absent order. -/
inductive OrderStatus where
  | pending | settled | failed | expired | withdrawn
deriving DecidableEq, Repr

/-- A move order (R40). -/
structure Order where
  seq : Byte
  kind : OrderKind
  x : Int
  y : Int
  status : OrderStatus
deriving DecidableEq, Repr

/-- The stage order unit (R40, R42). -/
structure StageUnit where
  lastSeq : Byte := 0
  order : Option Order := none
  settleTimer : Bool := false
deriving DecidableEq, Repr

/-! ## The turret drive (R66) -/

/-- Directions: CW 0, CCW 1. -/
inductive Direction where
  | cw | ccw
deriving DecidableEq, Repr

/-- Who asked for a rotation (R66); a homing is always asked by the arbiter. -/
inductive TurretReq where
  | cycle | selftest
deriving DecidableEq, Repr

/-- The phase of a rotation: TRAVEL with the steps still to count, STROKE with the steps counted and whether the sensor
read inactive at the stroke start (R70, R71). -/
inductive RotPhase where
  | travel (left : Nat)
  | stroke (done : Nat) (clearAtStart : Bool)
deriving DecidableEq, Repr

/-- A rotation in progress. `reading` is the sensor's level at its last counted step (R67), which the checks at the start
and at the end of the stroke use (R71); no check comes before a counted step. -/
structure Rotation where
  src : Station
  target : Station
  dir : Direction
  phase : RotPhase
  pos : Nat
  req : TurretReq
  reading : Bool := false
deriving DecidableEq, Repr

/-- The phase of a homing (R75): SEARCH with whether the sensor has read inactive yet, MARK, PLACE with the station
identified, the steps placed and the step position. -/
inductive HomePhase where
  | search (seenInactive : Bool)
  | mark
  | place (n : Station) (done : Nat) (pos : Nat)
deriving DecidableEq, Repr

/-- A homing in progress. -/
structure Homing where
  phase : HomePhase
  searched : Nat
deriving DecidableEq, Repr

/-- Turret states with the items present in each (R66). The rotation timer runs exactly in ROTATING, the homing timer
exactly in HOMING, and the step position of PARKED(n) is 2400 × n. -/
inductive TurretState where
  | unknown
  | homing (h : Homing)
  | parked (n : Station)
  | rotating (r : Rotation)
  | fault
deriving DecidableEq, Repr

/-- The turret drive (R66). -/
structure Turret where
  state : TurretState := .unknown
  gated : Nat := 0
  lastMark : Option (Nat × Option Station) := none
  lastSub : Option SubReason := none
deriving DecidableEq, Repr

/-! ## Acquisition unit and load actuator (R80, R88) -/

/-- The slot settings a round runs with (R81, R82). -/
structure RoundCfg where
  prescale : Nat := 1
  period : Nat := 5
  n : Nat := 8
deriving DecidableEq, Repr

/-- The acquisition unit (R80, R87). -/
structure Acquisition where
  rawForce : Int := 0
  rawDepth : Int := 0
  saturated : Bool := false
  force : Option Int := none
  depth : Option Int := none
  rounds : Word32 := 0
  refSwitched : Bool := false
  refRequested : Bool := false
  round : RoundCfg := {}
deriving DecidableEq, Repr

/-- Actuator states (R88). -/
inductive ActState where
  | retracting | retracted | approaching | loading | dwelling | unloading | stalled
deriving DecidableEq, Repr

/-- Who asks the actuator (R88). -/
inductive ActReq where
  | arbiter | cycle
deriving DecidableEq, Repr

/-- What was asked (R88). -/
inductive Asked where
  | retract | indent
deriving DecidableEq, Repr

/-- The parameters of an indent request (R46, R88). -/
structure IndentParams where
  force : Nat
  loadTime : Nat
  dwell : Nat
  approach : Nat
  travel : Nat
  threshold : Nat
  maxForce : Nat
deriving DecidableEq, Repr

/-- The load actuator (R88). `rampMs` and `dwellMs` count the milliseconds since contact and since dwell began
(R94, R101). -/
structure Actuator where
  state : ActState := .retracting
  requester : Option (ActReq × Asked) := some (.arbiter, .retract)
  held : Option IndentParams := none
  params : Option IndentParams := none
  tare : Int := 0
  refDepth : Option Int := none
  contactMade : Bool := false
  contactForce : Option Int := none
  contactDepth : Option Int := none
  target : Option Int := none
  dwellSum : Int := 0
  dwellCount : Nat := 0
  dwellMean : Option Int := none
  dwellTime : Option Nat := none
  penetration : Option Int := none
  lastFailure : Option Status := none
  loadTimer : Bool := false
  dwellTimer : Bool := false
  stallTimer : Bool := true
  rampMs : Nat := 0
  dwellMs : Nat := 0
deriving DecidableEq, Repr

/-- The levels of the input pins: STOP line (R32), top limit (R88), index sensor (R67). -/
structure Pins where
  stopLine : Bool := false
  topLimit : Bool := false
  sensor : Bool := false
deriving DecidableEq, Repr

/-! ## Capture engine and frame store (R102, R103) -/

/-- Capture states (R102). -/
inductive CapState where
  | idle | waiting | exposing | receiving | discarding
deriving DecidableEq, Repr

/-- Camera modes (R107): 8-bit 0, 10-bit 1. -/
inductive CameraMode where
  | bits8 | bits10
deriving DecidableEq, Repr

/-- A capture request (R102, R108). -/
structure CapRequest where
  objective : Station
  h : Nat
  illum : Illum
  exposureUs : Nat
  cx : Nat
  cy : Nat
  gain : Nat
  camera : CameraMode
deriving DecidableEq, Repr

/-- The region of interest (R102, R109). -/
structure Roi where
  hEff : Nat
  reduced : Bool
  col0 : Nat
  row0 : Nat
deriving DecidableEq, Repr

/-- Exposures: SINGLE 0, A 1, B 2 (R110). -/
inductive Exposure where
  | single | a | b
deriving DecidableEq, Repr

/-- Capture failure kinds (R193). -/
inductive FailKind where
  | pixelRange | lineLength | sumMismatch | shortFrame | longFrame | frameTimeout
deriving DecidableEq, Repr

/-- The capture engine (R102). `line` holds the pixel values of the line being received, in order (R105). The tail
wait runs exactly in WAITING, and the trigger line is active exactly in EXPOSING. -/
structure Capture where
  state : CapState := .idle
  request : Option CapRequest := none
  roi : Option Roi := none
  exposure : Option Exposure := none
  exposureCount : Nat := 0
  retryCount : Nat := 0
  /-- The lit quadrants, a list of numbers 1..4. -/
  lit : List Nat := []
  lineCount : Nat := 0
  line : List Nat := []
  frameTimer : Bool := false
  tailDiscard : Bool := false
  imageCounter : Word16 := 0
  lastDetail : Option (FailKind × Nat) := none
deriving DecidableEq, Repr

/-- Cells of the frame store, in the canonical form of `Memory.wf` (Machine/Ops.lean). -/
abbrev Memory := List Host.Cell

/-- The frame store (R103): the bytes of both buffers, which buffer is WORK, and the identity of LAST. -/
structure FrameStore where
  mem : Memory := []
  work : Fin 2 := 0
  lastId : Option Word16 := none
  lastHEff : Option Nat := none
deriving DecidableEq, Repr

/-! ## Measurement engine (R119, R136) -/

/-- Phases of a measurement (R119). -/
inductive Phase where
  | threshold | profiles | spans | edges | scale
deriving DecidableEq, Repr

/-- Measurement details (R134, R193). -/
inductive Detail where
  | noImage | contrast | noRun | clipped | zeroLength | zeroDiagonal
deriving DecidableEq, Repr

/-- Axes: column 0, row 1. -/
inductive Axis where
  | column | row
deriving DecidableEq, Repr

/-- A measurement request (R119, R120). -/
structure MeasRequest where
  imageId : Word16
  hEff : Nat
  threshold : Option Nat
  objective : Station
  corr : Int
  scale : Nat
deriving DecidableEq, Repr

/-- The four edges in px/16 (R128, R129). -/
structure Edges where
  left : Int
  right : Int
  top : Int
  bottom : Int
deriving DecidableEq, Repr

/-- The working items of a measurement (R119), each absent until computed. Pairs are (column axis, row axis). -/
structure WorkItems where
  phase : Phase := .threshold
  t : Option Nat := none
  b : Option Nat := none
  d : Option Nat := none
  profiles : Option (List Nat × List Nat) := none
  colSpan : Option (Nat × Nat) := none
  rowSpan : Option (Nat × Nat) := none
  edges : Option Edges := none
  lengths : Option (Int × Int) := none
  diags : Option (Int × Int) := none
  off32 : Option (Int × Int) := none
  offNm : Option (Int × Int) := none
deriving DecidableEq, Repr

/-- A measurement in progress: its request and the working items computed so far (log entry 14). -/
structure MeasRun where
  req : MeasRequest
  work : WorkItems := {}
deriving DecidableEq, Repr

/-- How the last measurement ended (R136). -/
inductive SummaryOutcome where
  | ended (s : Status)
  | abandoned
deriving DecidableEq, Repr

/-- The last summary (R136). `threshold` is absent for AUTO. -/
structure Summary where
  outcome : SummaryOutcome
  imageId : Word16
  threshold : Option Nat
  t : Option Nat
  b : Option Nat
  d : Option Nat
  detail : Option Detail
  axis : Option Axis
  colSpan : Option (Nat × Nat)
  rowSpan : Option (Nat × Nat)
  phase : Option Phase
deriving DecidableEq, Repr

/-- The measurement engine: IDLE when no measurement is in progress (R119). -/
structure Meas where
  run : Option MeasRun := none
  summary : Option Summary := none
deriving DecidableEq, Repr

/-! ## Result store and indent map (R154, R163 to R166) -/

/-- The flags of a POINT record, in the order of their bits (R200). -/
structure Flags where
  asymmetric : Bool := false
  shape : Bool := false
  overCap : Bool := false
  underFloor : Bool := false
  smallImage : Bool := false
  roiReduced : Bool := false
  fallback : Bool := false
  retry : Bool := false
  spacing : Bool := false
  unverified : Bool := false
  outOfTable : Bool := false
deriving DecidableEq, Repr

/-- The fields of a POINT record (R164). -/
structure PointBody where
  index : Nat
  tag : Nat
  x : Int
  y : Int
  objective : Station
  flags : Flags
  force : Option Int
  dwellTime : Option Nat
  depth : Option Int
  diags : Option (Int × Int)
  hardness : Option Nat
  secondary : Option Int
  imageId : Option Word16
deriving DecidableEq, Repr

/-- Reasons of a JOB_END record (R165). -/
inductive Reason where
  | finished | cancelled | configChanged
deriving DecidableEq, Repr

/-- Verification verdicts (R180). -/
inductive Verdict where
  | passed | failed | noValidPoints
deriving DecidableEq, Repr

/-- Offset verdicts (R181). -/
inductive OffVerdict where
  | applied | rejectedRange | noValidPoints
deriving DecidableEq, Repr

/-- The fields of a JOB_END record (R165). `mean` pairs the mean hardness with the deviation. -/
structure JobEndBody where
  reason : Reason
  openSeq : Word32
  ok : Nat
  failed : Nat
  skipped : Nat
  voided : Nat
  mean : Option (Nat × Nat)
  verdict : Option Verdict
  correction : Option (Int × Int)
  offVerdict : Option OffVerdict
deriving DecidableEq, Repr

/-- The two record kinds (R163). -/
inductive RecordBody where
  | point (b : PointBody)
  | jobEnd (b : JobEndBody)
deriving DecidableEq, Repr

/-- A record (R163). -/
structure Record where
  id : Word16
  port : Port
  handle : Handle
  kind : JobKind
  specimen : Nat
  status : Status
  body : RecordBody
deriving DecidableEq, Repr

/-- The result store (R154): the number of RESERVED slots and the six lists; the slots that are none of these are FREE
(log entry 9). -/
structure ResultStore where
  reserved : Nat := 0
  counter : Word16 := 0
  untaken : PerPort (List Record) := ⟨[], [], []⟩
  taken : PerPort (List Record) := ⟨[], [], []⟩
deriving DecidableEq, Repr

/-- An indent map entry (R166); the diagonal in 0.1 µm. -/
structure MapEntry where
  specimen : Nat
  x : Int
  y : Int
  diag : Int
  recordId : Word16
deriving DecidableEq, Repr

/-! ## Calibration, settings, verification, self-test (R172 to R186) -/

/-- Indenter profiles: SP 0, RB 1. -/
inductive Profile where
  | sp | rb
deriving DecidableEq, Repr

/-- The fields of an INDENTER record (R172). -/
structure Indenter where
  profile : Profile
  minForce : Nat
  maxForce : Nat
  threshold : Nat
deriving DecidableEq, Repr

/-- The fields of an OBJECTIVE record (R172). -/
structure Objective where
  cx : Nat
  cy : Nat
  scale : Nat
  corr : Int
  dx : Int
  dy : Int
  exposureUs : Nat
  gain : Nat
  fallback : Option Station
deriving DecidableEq, Repr

/-- A station record (R172). -/
inductive StationRec where
  | empty
  | indenter (i : Indenter)
  | objective (o : Objective)
deriving DecidableEq, Repr

/-- The calibration tables (R80, R172, R175). -/
structure Calibration where
  stations : Vector StationRec 6 := Vector.replicate 6 .empty
  curve : List (Int × Int) := []
  depthZero : Int := 0
  depthScale : Nat := 0
  convProfile : Profile := .sp
  convPoints : List (Int × Int) := []
deriving DecidableEq, Repr

/-- The global settings (R176). -/
structure Settings where
  stagePort : Port := .pc
  rotationOn : Bool := true
  settleTimeout : Nat := 10
  round : RoundCfg := {}
  camera : CameraMode := .bits8
  edgeLevel : Nat := 3
  minContrast : Nat := 24
  interval : Nat := 0
deriving DecidableEq, Repr

/-- A verification entry (R177). -/
structure VerifEntry where
  station : Station
  force : Nat
  verified : Bool
  mean : Option Nat
  since : Nat
  seq : Word32
deriving DecidableEq, Repr

/-- The verification table (R177). -/
structure VerifTable where
  counter : Word32 := 0
  entries : List VerifEntry := []
deriving DecidableEq, Repr

/-- The self-test items, in the order they run (R182). -/
inductive TestItem where
  | pattern | address | force | depth | turret
deriving DecidableEq, Repr

/-- Self-test error codes (R193). -/
inductive TestError where
  | sub (r : SubReason)
  | patternMismatch
  | addressAlias
  | referenceRange
deriving DecidableEq, Repr

/-- The last result of the self-test unit (R182, R186). -/
inductive TestResult where
  | passed
  | failed (item : TestItem) (code : TestError) (location : Word32) (expected read : Int)
  | abandoned (item : TestItem)
deriving DecidableEq, Repr

/-- A self-test in progress: the port whose mailbox stays WORKING, the item running, the items still to run, the items
passed, and the rotations of the turret item still to be confirmed. -/
structure TestRun where
  port : Port
  item : TestItem
  todo : List TestItem
  done : Nat
  visits : Nat
deriving DecidableEq, Repr

/-- The self-test unit (R182). -/
structure SelfTest where
  run : Option TestRun := none
  last : Option TestResult := none
deriving DecidableEq, Repr

/-! ## The whole block -/

/-- The state of the HC-260. `pending` is the queue of waiting commands, first in, first out (log entry 1); `freeCount`
is the model's own counter for free values (log entry 17). -/
structure State where
  pending : List Instr
  ports : PerPort Mailbox
  /-- The SPI transaction in progress on each port, none while its select is released. -/
  spi : PerPort (Option SpiTransfer)
  jobs : Vector JobSlot 16
  openOrder : Word32
  points : List Point
  arb : Arbiter
  cycle : Cycle
  stage : StageUnit
  turret : Turret
  acq : Acquisition
  act : Actuator
  pins : Pins
  cap : Capture
  frames : FrameStore
  meas : Meas
  results : ResultStore
  map : List MapEntry
  cal : Calibration
  settings : Settings
  verif : VerifTable
  selftest : SelfTest
  freeCount : Nat
deriving DecidableEq, Repr

/-- The machine right after reset: each block at the values its chapter gives, the input pins inactive (log entry 5). -/
def State.reset : State where
  pending := []
  ports := ⟨{}, {}, {}⟩
  spi := ⟨none, none, none⟩
  jobs := Vector.replicate 16 {}
  openOrder := 0
  points := []
  arb := {}
  cycle := {}
  stage := {}
  turret := {}
  acq := {}
  act := {}
  pins := {}
  cap := {}
  frames := {}
  meas := {}
  results := {}
  map := []
  cal := {}
  settings := {}
  verif := {}
  selftest := {}
  freeCount := 0

end Sys2Proof.Machine
end

