-- ==== Sys2Proof/Machine/Ops.lean ====
section
/-! DEFINITION. The shared operations: rounding, byte order, the frame store's memory, the accessors of the job table,
the point store, the result store and the ports, and the few operations every block uses: raising an attention term
(R197), recording a fault (R33), halting the head (R20, R26), noting a decision event (R23). -/

namespace Sys2Proof.Machine

/-! ## Rounding (00_scope.md, Rounding) -/

/-- The quotient of `a` by a positive `b`, rounded half up: the largest integer not greater than (2a + b) / (2b). -/
def roundHalfUp (a b : Int) : Int := (2 * a + b) / (2 * b)

/-! ## Byte order and widths (R187, R193) -/

/-- The `n` bytes of a number, least significant first (R187). -/
def bytesLE : Nat → Nat → List Byte
  | 0, _ => []
  | n + 1, v => BitVec.ofNat 8 v :: bytesLE n (v / 256)

/-- The number that bytes spell, least significant first (R187). -/
def natLE : List Byte → Nat
  | [] => 0
  | b :: bs => b.toNat + 256 * natLE bs

/-- One, two or four bytes, unsigned. -/
def u8 (v : Nat) : List Byte := bytesLE 1 v
def u16 (v : Nat) : List Byte := bytesLE 2 v
def u32 (v : Nat) : List Byte := bytesLE 4 v

/-- A signed number in `n` bytes, two's complement. -/
def bytesInt (n : Nat) (v : Int) : List Byte := bytesLE n (v % (256 ^ n : Nat)).toNat

/-- Two or four bytes, signed. -/
def i16 (v : Int) : List Byte := bytesInt 2 v
def i32 (v : Int) : List Byte := bytesInt 4 v

/-- A two-valued item: no, clear and inactive 0, yes, set and active 1 (R193). -/
def flagByte (b : Bool) : List Byte := u8 b.toNat

/-- A value that may be absent: a presence byte, then the value's `n` bytes, which read 0 when it is absent (R193). -/
def optBytes {α : Type} (n : Nat) (enc : α → List Byte) : Option α → List Byte
  | none => u8 0 ++ List.replicate n 0
  | some v => u8 1 ++ enc v

/-- Bytes made exactly `n` long: zeros past the end (R191, R199), cut beyond. -/
def fitTo (n : Nat) (bs : List Byte) : List Byte := (bs ++ List.replicate n 0).take n

/-- The number of `n` bytes of a block at an offset, unsigned. -/
def readU (block : List Byte) (off n : Nat) : Nat := natLE ((block.drop off).take n)

/-- The number of `n` bytes of a block at an offset, two's complement. -/
def readI (block : List Byte) (off n : Nat) : Int :=
  let v := readU block off n
  if v < 2 ^ (8 * n - 1) then (v : Int) else (v : Int) - (256 ^ n : Nat)

/-- `bytes` stored into `block` from index `off` on; what falls outside is dropped. -/
def storeBytes (block : List Byte) : Nat → List Byte → List Byte
  | _, [] => block
  | off, b :: bs => storeBytes (block.set off b) (off + 1) bs

/-! ## The frame store's memory (R103) -/

/-- The byte at an address; an address that is not listed reads 0, the reset value of every byte (R103). -/
def Memory.read : Memory → Nat → Byte
  | [], _ => 0
  | (k, v) :: m, a => if k = a then v else Memory.read m a

/-- The cells of consecutive bytes from `a` on, without the zeros. -/
def Memory.cellsFrom : Nat → List Byte → Memory
  | _, [] => []
  | a, b :: bs => if b = 0 then Memory.cellsFrom (a + 1) bs else (a, b) :: Memory.cellsFrom (a + 1) bs

/-- Consecutive bytes stored from `a` on: the cells below them, their own, and the cells above. -/
def Memory.write (m : Memory) (a : Nat) (bs : List Byte) : Memory :=
  m.filter (fun c => c.1 < a) ++ Memory.cellsFrom a bs ++ m.filter (fun c => a + bs.length ≤ c.1)

/-- The `n` bytes from `a` on. -/
def Memory.slice (m : Memory) (a n : Nat) : List Byte :=
  let near := m.filter (fun c => a ≤ c.1 && c.1 < a + n)
  (List.range n).map fun i => Memory.read near (a + i)

/-- Cells stand at strictly rising addresses above `lo`. -/
def Memory.risingFrom : Nat → Memory → Bool
  | _, [] => true
  | lo, (k, v) :: m => lo ≤ k && v != 0 && Memory.risingFrom (k + 1) m

/-- The canonical form: addresses strictly rising, no cell equal to what an unlisted address reads as, and every
address inside the two buffers. -/
def Memory.wf (m : Memory) : Bool :=
  Memory.risingFrom 0 m && m.all (fun c => c.1 < 2 * Config.bufferBytes)

/-- The address of a byte of the frame store. -/
def frameAddr (buffer row col : Nat) : Nat := Config.bufferBytes * buffer + Config.frameSide * row + col

/-- The buffer that plays LAST (R103). -/
def FrameStore.last (f : FrameStore) : Fin 2 := if f.work = 0 then 1 else 0

/-! ## Ports -/

/-- Ports are numbered PA 0, PB 1, PC 2 (R193). -/
def portNum : Port → Nat
  | .pa => 0 | .pb => 1 | .pc => 2

/-- The three ports in their fixed order. -/
def allPorts : List Port := [.pa, .pb, .pc]

/-- The value of a port. -/
def forPort {α : Type} (v : PerPort α) : Port → α
  | .pa => v.a | .pb => v.b | .pc => v.c

/-- The value of a port replaced. -/
def withPort {α : Type} (v : PerPort α) (p : Port) (x : α) : PerPort α :=
  match p with
  | .pa => { v with a := x }
  | .pb => { v with b := x }
  | .pc => { v with c := x }

/-- The mailbox of a port. -/
def State.mailbox (s : State) (p : Port) : Mailbox := forPort s.ports p

/-- The mailbox of a port replaced. -/
def State.setMailbox (s : State) (p : Port) (m : Mailbox) : State := { s with ports := withPort s.ports p m }

/-! ## Jobs and points -/

/-- The job slots in order. -/
def allSlots : List Slot := [0, 1, 2, 3, 4, 5, 6, 7, 8, 9, 10, 11, 12, 13, 14, 15]

/-- The stations in order. -/
def allStations : List Station := [0, 1, 2, 3, 4, 5]

/-- The handle of a slot at a generation: slot number plus 16 times the generation (R1). -/
def handleOf (i : Slot) (gen : BitVec 4) : Handle := BitVec.ofNat 8 (i.val + 16 * gen.toNat)

/-- The slot a handle names: its low four bits (R1). -/
def handleSlot (h : Handle) : Slot := Fin.ofNat 16 h.toNat

/-- The generation a handle names: its high four bits (R1). -/
def handleGen (h : Handle) : BitVec 4 := BitVec.ofNat 4 (h.toNat / 16)

/-- The slot entry of a job slot. -/
def State.slot (s : State) (i : Slot) : JobSlot := s.jobs[i]

/-- The entry of a job slot replaced. -/
def State.setSlot (s : State) (i : Slot) (e : JobSlot) : State := { s with jobs := s.jobs.set i e }

/-- The job in a slot replaced. -/
def State.setJob (s : State) (i : Slot) (j : Job) : State := s.setSlot i { s.slot i with job := some j }

/-- A job's entry changed; a free slot stays free. -/
def State.updateJob (s : State) (i : Slot) (f : Job → Job) : State :=
  match (s.slot i).job with
  | some j => s.setJob i (f j)
  | none => s

/-- The present handle of a slot. -/
def State.handle (s : State) (i : Slot) : Handle := handleOf i (s.slot i).gen

/-- The job a handle names: none when the slot is free or its generation differs (R1). -/
def State.findJob (s : State) (h : Handle) : Option (Slot × Job) :=
  let i := handleSlot h
  if (s.slot i).gen = handleGen h then (s.slot i).job.map fun j => (i, j) else none

/-- The points of a job, in the order they were added (R4). -/
def State.pointsOf (s : State) (i : Slot) : List Point := s.points.filter fun p => p.slot = i

/-- The PENDING points of a job. -/
def State.pendingOf (s : State) (i : Slot) : List Point :=
  s.points.filter fun p => p.slot = i && p.state = .pending

/-- The granted point of a job, if it has one. -/
def State.grantedOf (s : State) (i : Slot) : Option Point :=
  s.points.find? fun p => p.slot = i && p.state = .granted

/-- The granted point, if there is one (R20). -/
def State.grantedPoint (s : State) : Option Point := s.points.find? fun p => p.state = .granted

/-- Free point slots (R4). -/
def State.freePoints (s : State) : Nat := Config.pointSlots - s.points.length

/-- A job is eligible (R22). -/
def State.eligible (s : State) (i : Slot) : Bool :=
  match (s.slot i).job with
  | some j => !j.held && !j.cancelling && !(s.pendingOf i).isEmpty
  | none => false

/-- A job is STARVED: OPEN, no point PENDING, none granted (R3). -/
def State.starved (s : State) (i : Slot) : Bool :=
  match (s.slot i).job with
  | some j => j.list = .opened && !j.cancelling && (s.pointsOf i).isEmpty
  | none => false

/-- The station record of a station. -/
def State.station (s : State) (n : Station) : StationRec := s.cal.stations[n]

/-- A station record replaced. -/
def State.setStation (s : State) (n : Station) (r : StationRec) : State :=
  { s with cal := { s.cal with stations := s.cal.stations.set n r } }

/-- The part is uncalibrated: fewer than two curve points, or depth scale 0 (R8). -/
def State.uncalibrated (s : State) : Bool := s.cal.curve.length < 2 || s.cal.depthScale = 0

/-! ## Result store counts (R154, R155) -/

/-- FREE result slots. -/
def ResultStore.free (r : ResultStore) : Nat :=
  Config.resultSlots - (r.reserved + r.untaken.a.length + r.untaken.b.length + r.untaken.c.length
    + r.taken.a.length + r.taken.b.length + r.taken.c.length)

/-- Every record of the store. -/
def ResultStore.records (r : ResultStore) : List Record :=
  r.untaken.a ++ r.untaken.b ++ r.untaken.c ++ r.taken.a ++ r.taken.b ++ r.taken.c

/-! ## Attention (R196, R197) -/

/-- A mailbox whose port's term has become true (R197): in PULSE mode a pulse starts, or one more is scheduled behind the
active one, or the event joins the scheduled one; in LEVEL mode the line follows the condition and nothing is kept. -/
def pulsed (m : Mailbox) : Mailbox :=
  match m.mode with
  | .level => m
  | .pulse =>
    if m.pulseActive then { m with pulseScheduled := true }
    else if m.pulseScheduled then m
    else { m with pulseActive := true }

/-- One of the port's terms becomes true (R197). -/
def raiseTerm (p : Port) (s : State) : State := s.setMailbox p (pulsed (s.mailbox p))

/-! ## Head state, faults, decision events -/

/-- The head becomes HALTED: the wait condition is NONE (R24), the burst ends (R26), and the HALTED term becomes true
on every port (R196). A head that is HALTED stays as it is. -/
def haltHead (s : State) : State :=
  if s.arb.head = .halted then s
  else
    raiseTerm .pc (raiseTerm .pb (raiseTerm .pa
      { s with arb := { s.arb with head := .halted, wait := .none, holder := none, burst := 0 } }))

/-- A decision event reaches the arbiter: it counts with the head IDLE and is not held over otherwise (R23). -/
def noteDecision (s : State) : State :=
  if s.arb.head = .idle then { s with arb := { s.arb with due := true } } else s

/-- The head becomes IDLE, which is a decision event (R23). -/
def idleHead (s : State) : State := { s with arb := { s.arb with head := .idle, due := true } }

/-- The record of a fault that arises now (R33). -/
def faultRecordNow (code : FaultCode) (sub : Option SubReason) (s : State) : FaultRecord :=
  { code := code, sub := sub, head := s.arb.head
    point := s.grantedPoint.map fun p => (s.handle p.slot, p.index) }

/-- The first and last fault take a record: both when the first is absent, the last alone otherwise (R33). -/
def storeFault (f : FaultRecord) (s : State) : State :=
  { s with arb := { s.arb with first := some (s.arb.first.getD f), last := some f } }

/-- A fault is recorded and halts the head by the head state (R33). STOP only records; R32 gives what it does. -/
def recordFault (code : FaultCode) (sub : Option SubReason) (s : State) : State :=
  let s1 := storeFault (faultRecordNow code sub s) s
  if code = .stop then s1
  else
    match s.arb.head with
    | .idle => haltHead s1
    | .busy => { s1 with cycle := { s1.cycle with haltOnEnd := true } }
    | .selftest => { s1 with arb := { s1.arb with testFault := true } }
    | .unready => haltHead s1
    | .recovering => haltHead s1
    | .halted => s1

end Sys2Proof.Machine
end

