-- ==== Sys2Proof/Machine/Capture.lean ====
section
/-! DEFINITION. The capture engine and the frame store on their own (R102 to R115). Each operation answers the new state
and the report the engine makes to the cycle controller, if any; Machine/Flow.lean hands it over. -/

namespace Sys2Proof.Machine

/-- The engine's reports to the cycle controller (R50, R51). -/
inductive CapReport where
  | restart
  | complete (id : Word16) (hEff : Nat) (reduced : Bool)
  | tooSmall (hEff : Nat) (reduced : Bool)
  | failed (st : Status)
deriving DecidableEq, Repr

/-- An objective with every field 0, read for a station that is not of kind OBJECTIVE; the station check (R30) keeps
that from arising in a cycle (log entry 23). -/
def noObjective : Objective :=
  { cx := 0, cy := 0, scale := 0, corr := 0, dx := 0, dy := 0, exposureUs := 0, gain := 0, fallback := none }

/-- The OBJECTIVE record of a station. -/
def State.objectiveOf (s : State) (n : Station) : Objective :=
  match s.station n with
  | .objective o => o
  | _ => noObjective

/-! ## The region of interest (R108, R109) -/

/-- h_eff: the smallest of h, cx, cy, 1280 − cx and 1024 − cy (R108). -/
def effectiveHalf (h cx cy : Nat) : Nat :=
  min h (min cx (min cy (min (Config.sensorCols - cx) (Config.sensorRows - cy))))

/-- The ROI of a request (R109). -/
def roiFor (h cx cy : Nat) : Roi :=
  let e := effectiveHalf h cx cy
  { hEff := e, reduced := e < h, col0 := cx - e, row0 := cy - e }

/-! ## Exposures (R110, R111) -/

/-- The quadrants an exposure lights (R110). -/
def quadrantsOf : Exposure → List Nat
  | .single => [1, 2, 3, 4]
  | .a => [1, 3]
  | .b => [2, 4]

/-- The first exposure of a capture (R111). -/
def firstExposure : Illum → Exposure
  | .single => .single
  | .paired => .a

/-- An exposure starts (R110). -/
def startExposure (e : Exposure) (s : State) : State :=
  { s with cap :=
    { s.cap with
      state := .exposing, exposure := some e, exposureCount := s.cap.exposureCount + 1, lit := quadrantsOf e
      lineCount := 0, line := [], frameTimer := true } }

/-- The first exposure of the request held starts (R110, R113, R115). -/
def startFirst (s : State) : State :=
  match s.cap.request with
  | some r => startExposure (firstExposure r.illum) s
  | none => s

/-- The engine drops the request and the ROI and becomes IDLE (R113, R114, R115). The line count stays as the last frame left
it until the next exposure starts (log entry 36). -/
def captureIdle (s : State) : State :=
  { s with cap :=
    { s.cap with
      state := .idle, request := none, roi := none, exposure := none, lit := [], line := [], frameTimer := false } }

/-! ## Taking a request (R108) -/

/-- The request as the engine holds it: the cycle's part and what the station table and the settings say (R108). -/
def captureRequestOf (objective : Station) (h : Nat) (illum : Illum) (s : State) : CapRequest :=
  let o := s.objectiveOf objective
  { objective := objective, h := h, illum := illum, exposureUs := o.exposureUs, cx := o.cx, cy := o.cy, gain := o.gain
    camera := s.settings.camera }

/-- A capture request: refused while the engine is not IDLE, too small below h_eff 32, otherwise held, with the first
exposure started at once or after the tail wait (R108, R115). In WAITING the exposure item is still absent and the line
count is the last frame's (log entry 36). -/
def requestCapture (objective : Station) (h : Nat) (illum : Illum) (s : State) : State × Option CapReport :=
  if s.cap.state ≠ .idle then (recordFault .cameraTimeout none s, some (.failed .cameraTimeout))
  else
    let r := captureRequestOf objective h illum s
    let roi := roiFor h r.cx r.cy
    let s1 := { s with cap := { s.cap with exposureCount := 0, retryCount := 0 } }
    if roi.hEff < 32 then (s1, some (.tooSmall roi.hEff roi.reduced))
    else
      let s2 := { s1 with cap := { s1.cap with request := some r, roi := some roi } }
      if s2.cap.tailDiscard then ({ s2 with cap := { s2.cap with state := .waiting } }, none)
      else (startFirst s2, none)

/-! ## Failures (R112, R113) -/

/-- The reason of a final failure (R113). -/
def finalReason (k : FailKind) : Status := if k = .frameTimeout then .cameraTimeout else .imageCorrupt

/-- A failed frame is acted on: a restart from the first exposure, or the final failure, a CAMERA_TIMEOUT being reported
to the arbiter first (R113). -/
def actOnFailure (k : FailKind) (s : State) : State × Option CapReport :=
  if s.cap.retryCount = 0 then
    (startFirst { s with cap := { s.cap with retryCount := 1 } }, some .restart)
  else
    let s1 := captureIdle s
    let s2 := if k = .frameTimeout then recordFault .cameraTimeout none s1 else s1
    (s2, some (.failed (finalReason k)))

/-- The last failure detail takes a kind at the present line count (R105, R112). -/
def noteFailure (k : FailKind) (s : State) : State :=
  { s with cap := { s.cap with lastDetail := some (k, s.cap.lineCount) } }

/-- A corruption found before the marker: noted, and the rest of the frame is dropped (R112). -/
def corrupt (k : FailKind) (s : State) : State :=
  let s1 := noteFailure k s
  { s1 with cap := { s1.cap with state := .discarding, line := [] } }

/-! ## Link items (R105, R106, R107, R109, R111) -/

/-- The largest pixel value of a camera mode (R105). -/
def pixelMax : CameraMode → Nat
  | .bits8 => 255
  | .bits10 => 1023

/-- A raw pixel value as it is stored (R107). -/
def reducePixel (mode : CameraMode) (gain v : Nat) : Byte :=
  match mode with
  | .bits8 => BitVec.ofNat 8 v
  | .bits10 => BitVec.ofNat 8 (min 255 (v / 2 ^ (2 - gain)))

/-- The smaller of two bytes (R111). -/
def minByte (a b : Byte) : Byte := if a.toNat ≤ b.toNat then a else b

/-- A pixel value taken (R105, R106). -/
def takePixel (v : Nat) (s : State) : State :=
  match s.cap.state, s.cap.request with
  | .receiving, some r =>
    let out := pixelMax r.camera < v
    let long := s.cap.lineCount = Config.sensorRows
    if out ∧ (¬ long ∨ Config.rangeBeforeLong = true) then corrupt .pixelRange s
    else if long then corrupt .longFrame s
    else { s with cap := { s.cap with line := s.cap.line ++ [v] } }
  | _, _ => s

/-- The ROI pixels of a complete line as they go into WORK: reduced, and in B the smaller of it and A's byte
(R107, R109, R111). -/
def storedRow (r : CapRequest) (roi : Roi) (exposure : Option Exposure) (line : List Nat) (old : List Byte) : List Byte :=
  let px := ((line.drop roi.col0).take (2 * roi.hEff)).map (reducePixel r.camera r.gain)
  if exposure = some .b then List.zipWith minByte px old else px

/-- A complete line's ROI pixels stored into WORK; a line outside the ROI is not stored (R109). -/
def storeLine (r : CapRequest) (roi : Roi) (s : State) : State :=
  let n := s.cap.lineCount
  if roi.row0 ≤ n ∧ n < roi.row0 + 2 * roi.hEff then
    let a := frameAddr s.frames.work.val (n - roi.row0) 0
    let old := Memory.slice s.frames.mem a (2 * roi.hEff)
    { s with frames :=
      { s.frames with mem := Memory.write s.frames.mem a (storedRow r roi s.cap.exposure s.cap.line old) } }
  else s

/-- A line-sum word taken: the line's length, then its sum, are checked, and a line that passes is stored and counted
(R105, R109). -/
def takeLineSum (word : Word16) (s : State) : State :=
  match s.cap.state, s.cap.request, s.cap.roi with
  | .receiving, some r, some roi =>
    if s.cap.line.length ≠ Config.sensorCols then corrupt .lineLength s
    else if s.cap.line.sum % 65536 ≠ word.toNat then corrupt .sumMismatch s
    else
      let s1 := storeLine r roi s
      { s1 with cap := { s1.cap with lineCount := s.cap.lineCount + 1, line := [] } }
  | _, _, _ => s

/-! ## The end of a frame (R106, R111, R112, R114, R115) -/

/-- The capture completes: the image id counter rises, the buffers exchange roles, LAST takes id and h_eff, and the engine
becomes IDLE (R114). -/
def completeCapture (roi : Roi) (s : State) : State × Option CapReport :=
  let id := s.cap.imageCounter + 1
  let s1 := { s with
    cap := { s.cap with imageCounter := id }
    frames := { s.frames with work := s.frames.last, lastId := some id, lastHEff := some roi.hEff } }
  (captureIdle s1, some (.complete id roi.hEff roi.reduced))

/-- The frame lacks a ROI row: the line count is at most the first row + 2 × h_eff − 1 (R106). -/
def isShort (roi : Roi) (lines : Nat) : Bool := lines + 1 ≤ roi.row0 + 2 * roi.hEff

/-- A frame-end marker in RECEIVING (R106, R111, R112). -/
def endFrame (roi : Roi) (s : State) : State × Option CapReport :=
  if isShort roi s.cap.lineCount then actOnFailure .shortFrame (noteFailure .shortFrame s)
  else if s.cap.exposure = some .a then (startExposure .b s, none)
  else completeCapture roi s

/-- The failure a discard ends with: the kind noted when it began (R112). -/
def discardEnd (s : State) : State × Option CapReport :=
  match s.cap.lastDetail with
  | some (k, _) => actOnFailure k s
  | none => (s, none)

/-- Tail discard cleared (R115). -/
def clearTail (s : State) : State := { s with cap := { s.cap with tailDiscard := false } }

/-- A frame-end marker taken (R106, R112, R115). -/
def takeMarker (s : State) : State × Option CapReport :=
  match s.cap.state with
  | .receiving =>
    match s.cap.roi with
    | some roi => endFrame roi s
    | none => (s, none)
  | .discarding => discardEnd s
  | .waiting => (startFirst (clearTail s), none)
  | .idle => (clearTail s, none)
  | .exposing => (clearTail s, none)

/-- The frame timer expires (R112). It runs out after the exposure, so an expiry in EXPOSING does not arise
(log entry 29). -/
def takeFrameTimeout (s : State) : State × Option CapReport :=
  if s.cap.frameTimer then
    match s.cap.state with
    | .receiving => actOnFailure .frameTimeout (noteFailure .frameTimeout s)
    | .discarding => discardEnd s
    | _ => (s, none)
  else (s, none)

/-- The exposure time has passed: the trigger falls, the light goes off, the engine is RECEIVING (R110). -/
def takeExposureEnd (s : State) : State :=
  if s.cap.state = .exposing then { s with cap := { s.cap with state := .receiving, lit := [] } } else s

/-- The 250 ms of the tail wait run out (R115). -/
def takeTailWait (s : State) : State := if s.cap.state = .waiting then startFirst (clearTail s) else s

/-- The capture in progress is abandoned (R115). -/
def abandonCapture (s : State) : State :=
  match s.cap.state with
  | .idle => s
  | .waiting => captureIdle s
  | _ => captureIdle { s with cap := { s.cap with tailDiscard := true } }

end Sys2Proof.Machine
end

