-- ==== Sys2Proof/Machine/Measure.lean ====
section
/-! DEFINITION. The measurement engine (R119 to R136): threshold, profiles, spans, edges, lengths, diagonals and offsets of
the image in LAST, taken in sub-steps so that an abandon finds what has been computed. Each operation answers the new
state and the engine's report, which Machine/Flow.lean hands to the cycle controller. -/

namespace Sys2Proof.Machine

/-- What a pass works on: the pixels of the window row by row, h_eff, the request's numbers, and the two settings. -/
structure MeasCtx where
  rows : List (List Nat)
  hEff : Nat
  threshold : Option Nat
  corr : Int
  scale : Nat
  edgeLevel : Nat
  minContrast : Nat
deriving DecidableEq, Repr

/-- The window of LAST: its rows and columns 0..2 × h_eff − 1 (R120). -/
def windowRows (f : FrameStore) (hEff : Nat) : List (List Nat) :=
  (List.range (2 * hEff)).map fun r =>
    (Memory.slice f.mem (frameAddr f.last.val r 0) (2 * hEff)).map fun b => b.toNat

/-! ## The threshold (R121 to R123) -/

/-- A pixel of the outer frame (R122). -/
def inFrame (hEff r c : Nat) : Bool := r < 4 || c < 4 || 2 * hEff - 4 ≤ r || 2 * hEff - 4 ≤ c

/-- The pixels of the window whose row and column index satisfy `keep`. -/
def pixelsWhere (rows : List (List Nat)) (keep : Nat → Nat → Bool) : List Nat :=
  rows.zipIdx.flatMap fun row => (row.1.zipIdx.filter fun px => keep row.2 px.2).map Prod.fst

/-- The background B (R122). -/
def background (rows : List (List Nat)) (hEff : Nat) : Nat :=
  let px := pixelsWhere rows (inFrame hEff)
  (roundHalfUp px.sum px.length).toNat

/-- A pixel of the central region (R123). -/
def inCentre (hEff r c : Nat) : Bool :=
  let lo := hEff / 2
  lo ≤ r && r < lo + hEff && lo ≤ c && c < lo + hEff

/-- The dark level D (R123). -/
def darkLevel (rows : List (List Nat)) (hEff : Nat) : Nat := (pixelsWhere rows (inCentre hEff)).foldl min 255

/-- The contrast check passes (R123). -/
def contrastOk (b d minContrast : Nat) : Bool := (minContrast : Int) ≤ (b : Int) - (d : Int)

/-- The threshold in AUTO (R123). -/
def autoThreshold (b d : Nat) : Nat := (b + d) / 2

/-! ## Profiles and spans (R124 to R127) -/

/-- Dark pixels of a line (R124). -/
def darkCount (t : Nat) (line : List Nat) : Nat := (line.filter (· < t)).length

/-- The row profile: dark pixels of each row (R124). -/
def rowProfile (t : Nat) (rows : List (List Nat)) : List Nat := rows.map (darkCount t)

/-- The column profile: dark pixels of each of `w` columns (R124). -/
def columnProfile (t w : Nat) (rows : List (List Nat)) : List Nat :=
  (List.range w).map fun c => darkCount t (rows.map fun row => row.getD c 255)

/-- The runs of a profile from index `i` on, `start` being the first index of the run under way (R125). -/
def runsFrom (k : Nat) : Nat → Option Nat → List Nat → List (Nat × Nat)
  | i, some f, [] => [(f, i - 1)]
  | _, none, [] => []
  | i, some f, p :: ps => if k ≤ p then runsFrom k (i + 1) (some f) ps else (f, i - 1) :: runsFrom k (i + 1) none ps
  | i, none, p :: ps => if k ≤ p then runsFrom k (i + 1) (some i) ps else runsFrom k (i + 1) none ps

/-- The runs of a profile, in rising order (R125). -/
def runs (k : Nat) (profile : List Nat) : List (Nat × Nat) := runsFrom k 0 none profile

/-- How far a run's middle lies from the window's (R125). -/
def offMiddle (w : Nat) (r : Nat × Nat) : Nat := ((r.1 : Int) + r.2 - ((w : Int) - 1)).natAbs

/-- A run beats another: longer, then nearer the middle, then lower (R125). -/
def beats (w : Nat) (r q : Nat × Nat) : Bool :=
  let lr := r.2 - r.1
  let lq := q.2 - q.1
  if lr = lq then
    if offMiddle w r = offMiddle w q then r.1 < q.1 else offMiddle w r < offMiddle w q
  else lq < lr

/-- The best of some runs (R125). -/
def chooseRun (w : Nat) : List (Nat × Nat) → Option (Nat × Nat)
  | [] => none
  | r :: rs =>
    match chooseRun w rs with
    | none => some r
    | some q => if beats w q r then some q else some r

/-- A span touches the border (R127). -/
def touchesBorder (w : Nat) (r : Nat × Nat) : Bool := r.1 = 0 || r.2 + 1 = w

/-! ## Edges, lengths, diagonals, offsets (R128 to R132) -/

/-- The leading edge of a span in px/16 (R128). -/
def leadingEdge (k : Nat) (profile : List Nat) (first : Nat) : Int :=
  let outside := profile.getD (first - 1) 0
  let inside := profile.getD first 0
  ((16 * (first - 1) + 16 * (k - outside) / (inside - outside) : Nat) : Int)

/-- The trailing edge of a span in px/16 (R129). -/
def trailingEdge (k : Nat) (profile : List Nat) (last : Nat) : Int :=
  let outside := profile.getD (last + 1) 0
  let inside := profile.getD last 0
  ((16 * (last + 1) : Nat) : Int) - ((16 * (k - outside) / (inside - outside) : Nat) : Int)

/-- A length in nm: (L × S) / 4096, rounded half up (R131). -/
def diagonalNm (len : Int) (scale : Nat) : Int := roundHalfUp (len * scale) 4096

/-- A centre offset in px/32 (R132). -/
def offset32 (e1 e2 : Int) (hEff : Nat) : Int := e1 + e2 - 32 * hEff + 16

/-- A centre offset in nm: (off32 × S) / 8192, rounded half up (R132). -/
def offsetNm (off : Int) (scale : Nat) : Int := roundHalfUp (off * scale) 8192

/-! ## The pass in sub-steps (7.2) -/

/-- What a sub-step ends in: more work, the end of the pass, or the check that failed, with what stands computed. -/
inductive SubStep where
  | work (w : WorkItems)
  | finished (w : WorkItems)
  | failed (w : WorkItems) (st : Status) (detail : Detail) (axis : Option Axis)
deriving DecidableEq, Repr

/-- THRESHOLD (R121 to R123). -/
def thresholdStep (c : MeasCtx) (w : WorkItems) : SubStep :=
  match c.threshold, w.b, w.d with
  | some t, _, _ => .work { w with t := some t, phase := .profiles }
  | none, none, _ => .work { w with b := some (background c.rows c.hEff) }
  | none, some _, none => .work { w with d := some (darkLevel c.rows c.hEff) }
  | none, some b, some d =>
    if contrastOk b d c.minContrast then .work { w with t := some (autoThreshold b d), phase := .profiles }
    else .failed w .lowContrast .contrast none

/-- PROFILES (R124). -/
def profilesStep (c : MeasCtx) (w : WorkItems) : SubStep :=
  let t := w.t.getD 0
  .work { w with
    profiles := some (columnProfile t (2 * c.hEff) c.rows, rowProfile t c.rows), phase := .spans }

/-- SPANS: the column's run, the row's run, then the border check (R125 to R127). -/
def spansStep (c : MeasCtx) (w : WorkItems) : SubStep :=
  let ps := w.profiles.getD ([], [])
  match w.colSpan, w.rowSpan with
  | none, _ =>
    match chooseRun (2 * c.hEff) (runs c.edgeLevel ps.1) with
    | some r => .work { w with colSpan := some r }
    | none => .failed w .noEdge .noRun (some .column)
  | some _, none =>
    match chooseRun (2 * c.hEff) (runs c.edgeLevel ps.2) with
    | some r => .work { w with rowSpan := some r }
    | none => .failed w .noEdge .noRun (some .row)
  | some cs, some rs =>
    if touchesBorder (2 * c.hEff) cs then .failed w .edgeClipped .clipped (some .column)
    else if touchesBorder (2 * c.hEff) rs then .failed w .edgeClipped .clipped (some .row)
    else .work { w with phase := .edges }

/-- The four edges of two spans (R128, R129). -/
def edgesOf (k : Nat) (ps : List Nat × List Nat) (cs rs : Nat × Nat) : Edges :=
  { left := leadingEdge k ps.1 cs.1, right := trailingEdge k ps.1 cs.2
    top := leadingEdge k ps.2 rs.1, bottom := trailingEdge k ps.2 rs.2 }

/-- EDGES: the edges, then the lengths (R128 to R130). -/
def edgesStep (c : MeasCtx) (w : WorkItems) : SubStep :=
  match w.edges with
  | none =>
    let e := edgesOf c.edgeLevel (w.profiles.getD ([], [])) (w.colSpan.getD (0, 0)) (w.rowSpan.getD (0, 0))
    .work { w with edges := some e }
  | some e =>
    let lx := e.right - e.left + c.corr
    let ly := e.bottom - e.top + c.corr
    if lx ≤ 0 then .failed w .noEdge .zeroLength (some .column)
    else if ly ≤ 0 then .failed w .noEdge .zeroLength (some .row)
    else .work { w with lengths := some (lx, ly), phase := .scale }

/-- SCALE: the diagonals, then the offsets (R131, R132). -/
def scaleStep (c : MeasCtx) (w : WorkItems) : SubStep :=
  match w.diags, w.lengths, w.edges with
  | none, some (lx, ly), _ =>
    let dx := diagonalNm lx c.scale
    let dy := diagonalNm ly c.scale
    if dx = 0 then .failed w .noEdge .zeroDiagonal (some .column)
    else if dy = 0 then .failed w .noEdge .zeroDiagonal (some .row)
    else .work { w with diags := some (dx, dy) }
  | some _, _, some e =>
    let ox := offset32 e.left e.right c.hEff
    let oy := offset32 e.top e.bottom c.hEff
    .finished { w with off32 := some (ox, oy), offNm := some (offsetNm ox c.scale, offsetNm oy c.scale) }
  | _, _, _ => .finished w

/-- One sub-step of the pass, by its phase. -/
def subStep (c : MeasCtx) (w : WorkItems) : SubStep :=
  match w.phase with
  | .threshold => thresholdStep c w
  | .profiles => profilesStep c w
  | .spans => spansStep c w
  | .edges => edgesStep c w
  | .scale => scaleStep c w

/-- The sub-steps of a pass up to its end; `fuel` bounds them. -/
def passFrom (c : MeasCtx) : Nat → WorkItems → SubStep
  | 0, w => .finished w
  | fuel + 1, w =>
    match subStep c w with
    | .work w' => passFrom c fuel w'
    | e => e

/-- The whole pass. In AUTO it has eleven sub-steps. -/
def measurePass (c : MeasCtx) : SubStep := passFrom c 11 {}

/-! ## Requests, ends, abandons (R120, R133 to R136) -/

/-- What a success report carries (R133): the image id, T, B and D, the spans, the edges, the offsets in px/32, and the
values the cycle controller passes on to the hardness unit. B and D are absent with a fixed threshold. -/
structure MeasSuccess where
  imageId : Word16
  t : Option Nat
  b : Option Nat
  d : Option Nat
  colSpan : Option (Nat × Nat)
  rowSpan : Option (Nat × Nat)
  edges : Option Edges
  off32 : Option (Int × Int)
  values : Measured
deriving DecidableEq, Repr

/-- The engine's reports to the cycle controller (R120, R133, R134): a failure carries its reason, its detail, and its axis
where the failed check has one. -/
inductive MeasReport where
  | success (m : MeasSuccess)
  | failed (st : Status) (detail : Detail) (axis : Option Axis)
deriving DecidableEq, Repr

/-- The context of a request in a state. -/
def measCtxOf (r : MeasRequest) (s : State) : MeasCtx :=
  { rows := windowRows s.frames r.hEff, hEff := r.hEff, threshold := r.threshold, corr := r.corr, scale := r.scale
    edgeLevel := s.settings.edgeLevel, minContrast := s.settings.minContrast }

/-- The last summary of a measurement (R136). -/
def summaryOf (r : MeasRequest) (w : WorkItems) (outcome : SummaryOutcome) (detail : Option Detail) (axis : Option Axis)
    (phase : Option Phase) : Summary :=
  { outcome := outcome, imageId := r.imageId, threshold := r.threshold, t := w.t, b := w.b, d := w.d
    detail := detail, axis := axis, colSpan := w.colSpan, rowSpan := w.rowSpan, phase := phase }

/-- The engine IDLE, its working items cleared, with a new last summary. -/
def measIdle (sum : Summary) (s : State) : State := { s with meas := { run := none, summary := some sum } }

/-- The measurement in progress is abandoned (R135). -/
def abandonMeasure (s : State) : State :=
  match s.meas.run with
  | some r => measIdle (summaryOf r.req r.work .abandoned none none (some r.work.phase)) s
  | none => s

/-- The working items right after a request is taken: nothing, or the fixed threshold with phase PROFILES (R120, R121). -/
def firstWork (threshold : Option Nat) : WorkItems :=
  match threshold with
  | some t => { t := some t, phase := .profiles }
  | none => {}

/-- The request of an image, threshold mode and objective, with corr and S from the station table (R120). -/
def measRequestOf (imageId : Word16) (hEff : Nat) (threshold : Option Nat) (objective : Station) (s : State) :
    MeasRequest :=
  let o := s.objectiveOf objective
  { imageId := imageId, hEff := hEff, threshold := threshold, objective := objective, corr := o.corr, scale := o.scale }

/-- A measurement request: one in progress is dropped first, and LAST must hold the image (R120). -/
def requestMeasure (r : MeasRequest) (s : State) : State × Option MeasReport :=
  let s1 := abandonMeasure s
  if s1.frames.lastId = some r.imageId then
    ({ s1 with meas := { s1.meas with run := some { req := r, work := firstWork r.threshold } } }, none)
  else (measIdle (summaryOf r {} (.ended .noEdge) (some .noImage) none none) s1, some (.failed .noEdge .noImage none))

/-- The lengths, diagonals and offsets of a finished pass, with SMALL_IMAGE (R133). -/
def measuredOf (w : WorkItems) : Measured :=
  let len := w.lengths.getD (0, 0)
  let dia := w.diags.getD (0, 0)
  let off := w.offNm.getD (0, 0)
  { lx := len.1, ly := len.2, dx := dia.1, dy := dia.2, offX := off.1, offY := off.2, small := len.1 < 128 || len.2 < 128 }

/-- The success report of a finished pass (R133). -/
def successOf (r : MeasRequest) (w : WorkItems) : MeasSuccess :=
  { imageId := r.imageId, t := w.t, b := w.b, d := w.d, colSpan := w.colSpan, rowSpan := w.rowSpan, edges := w.edges
    off32 := w.off32, values := measuredOf w }

/-- The success of a pass: its summary, and the report (R133). -/
def measureSucceeds (r : MeasRequest) (w : WorkItems) (s : State) : State × Option MeasReport :=
  (measIdle (summaryOf r w (.ended .ok) none none none) s, some (.success (successOf r w)))

/-- The measurement end: the outcome of the whole pass (R133, R134). -/
def takeMeasurementEnd (s : State) : State × Option MeasReport :=
  match s.meas.run with
  | none => (s, none)
  | some r =>
    match measurePass (measCtxOf r.req s) with
    | .finished w => measureSucceeds r.req w s
    | .work w => measureSucceeds r.req w s
    | .failed w st detail axis =>
      (measIdle (summaryOf r.req w (.ended st) (some detail) axis none) s, some (.failed st detail axis))

/-- One sub-step of the measurement in progress passes, or none does: a free value says which (log entry 14). A pass that
has come to its end waits for its measurement end. -/
def advanceMeasure (s : State) : State :=
  match s.meas.run with
  | none => s
  | some r =>
    if Config.measureAdvance s.freeCount then
      match subStep (measCtxOf r.req s) r.work with
      | .work w => { s with meas := { s.meas with run := some { r with work := w } } }
      | _ => s
    else s

end Sys2Proof.Machine
end

