-- ==== Sys2Proof/Machine/Flags.lean ====
section
/-! DEFINITION. The hardness unit's arithmetic and the flags of a POINT record (R140 to R149, R167), and the two
straight-line conversions (R84, R147). Pure functions of their inputs (R153). -/

namespace Sys2Proof.Machine

/-! ## The diagonal used and the shape flags (R140, R141) -/

/-- The diagonal used: the mean of the two for SP, the long one for RB (R140, R141). -/
def diagonalUsed (p : Profile) (dx dy : Int) : Int :=
  match p with
  | .sp => roundHalfUp (dx + dy) 2
  | .rb => dx

/-- ASYMMETRIC: SP alone, a difference above 5% of the mean (R140). -/
def isAsymmetric (p : Profile) (dx dy : Int) : Bool :=
  match p with
  | .sp => 5 * diagonalUsed .sp dx dy < ((dx - dy).natAbs : Int) * 100
  | .rb => false

/-- SHAPE: RB alone, a long diagonal below five times the short one (R141). -/
def isMisshapen (p : Profile) (dx dy : Int) : Bool :=
  match p with
  | .sp => false
  | .rb => dx < 5 * dy

/-! ## The hardness (R142 to R145) -/

/-- The profile's constant C (R143). -/
def profileConst : Profile → Int
  | .sp => 18909
  | .rb => 145093

/-- H = F × C × 1 000 000 / d², rounded half up (R143). -/
def rawHardness (p : Profile) (force d : Int) : Int := roundHalfUp (force * profileConst p * 1000000) (d * d)

/-- The ceiling of a hardness value (R144). -/
def hardnessCeiling : Int := 400000

/-- The hardness as recorded: absent for a force of 0 or less (R142), otherwise at most 400 000 (R144). -/
def hardnessValue (p : Profile) (force d : Int) : Option Nat :=
  if force ≤ 0 then none else some (min (rawHardness p force d) hardnessCeiling).toNat

/-- OVER: the computed hardness exceeded 400 000 (R144). -/
def isOver (p : Profile) (force d : Int) : Bool := 0 < force && hardnessCeiling < rawHardness p force d

/-- UNDER: the computed hardness is below 100 (R145). -/
def isUnder (p : Profile) (force d : Int) : Bool := 0 < force && rawHardness p force d < 100

/-! ## Straight-line interpolation (R84, R147) -/

/-- The value at `m` on the line through two points, the quotient rounded half up. -/
def onSegment (m : Int) (p q : Int × Int) : Int := p.2 + roundHalfUp ((m - p.1) * (q.2 - p.2)) (q.1 - p.1)

/-- The value at `m` on the segment that starts at the last point not above `m`: the first segment below the first
point, the last one from the last point on (R84, R147). -/
def onTable (m : Int) : List (Int × Int) → Int
  | p :: q :: r :: rest => if m < q.1 then onSegment m p q else onTable m (q :: r :: rest)
  | [p, q] => onSegment m p q
  | [p] => p.2
  | [] => 0

/-- The force of a raw force mean: absent with fewer than two curve points, otherwise converted and clamped (R83, R84). -/
def forceReading (curve : List (Int × Int)) (raw : Int) : Option Int :=
  if curve.length < 2 then none else some (max (-100000) (min 1000000 (onTable raw curve)))

/-- The depth of a raw depth code: absent with depth scale 0 (R85). -/
def depthReading (zero : Int) (scale : Nat) (raw : Int) : Option Int :=
  if scale = 0 then none else some (roundHalfUp ((raw - zero) * scale) 256)

/-! ## The secondary value (R146 to R148) -/

/-- A conversion is due: asked for, a table of at least two points, and of the indenter's profile (R146). -/
def conversionDue (convert : Bool) (cal : Calibration) (p : Profile) : Bool :=
  convert && 2 ≤ cal.convPoints.length && cal.convProfile = p

/-- The secondary value of a hardness that is not OVER and lies within the table (R147, R148). -/
def tableValue (pts : List (Int × Int)) (h : Int) (overCap : Bool) : Option Int :=
  match pts.head?, pts.getLast? with
  | some lo, some hi => if overCap || h < lo.1 || hi.1 < h then none else some (onTable h pts)
  | _, _ => none

/-- The secondary value and OUT_OF_TABLE of a record: nothing without a hardness (R142) or a conversion due (R146). -/
def secondaryOf (convert : Bool) (cal : Calibration) (p : Profile) (hardness : Option Nat) (overCap : Bool) :
    Option Int × Bool :=
  match hardness with
  | none => (none, false)
  | some h =>
    if conversionDue convert cal p then
      match tableValue cal.convPoints (h : Int) overCap with
      | some v => (some v, false)
      | none => (none, true)
    else (none, false)

/-! ## Verification and spacing (R149, R167) -/

/-- The entry of a key (R149, R177). -/
def verifEntry? (v : VerifTable) (st : Station) (force : Nat) : Option VerifEntry :=
  v.entries.find? fun e => e.station = st && e.force = force

/-- UNVERIFIED: no entry of the key, or a LAPSED one (R149). -/
def isUnverified (v : VerifTable) (st : Station) (force : Nat) : Bool :=
  match verifEntry? v st force with
  | some e => !e.verified
  | none => true

/-- A diagonal in nm as the indent map holds it, in 0.1 µm (R166). -/
def mapDiagonal (d : Int) : Int := roundHalfUp d 100

/-- An entry lies too close to a point: squared distance strictly below (3 × the larger diagonal)² (R167). -/
def tooClose (x y dNew : Int) (e : MapEntry) : Bool :=
  (x - e.x) * (x - e.x) + (y - e.y) * (y - e.y) < (3 * max dNew e.diag) * (3 * max dNew e.diag)

/-- SPACING: some entry of the same specimen lies too close (R167). -/
def hasSpacing (map : List MapEntry) (specimen : Nat) (x y dNew : Int) : Bool :=
  map.any fun e => e.specimen = specimen && tooClose x y dNew e

end Sys2Proof.Machine
end

