-- ==== Sys2Proof/Machine/Operands.lean ====
section
/-! DEFINITION. The operands of the mailbox commands: each command's parameters read from the command block by the
encoding of R193 and checked against their ranges. `none` is a parameter out of range (BAD_PARAM). Offsets count from
0x004, where the parameters start. -/

namespace Sys2Proof.Machine

/-- A number within lo..hi. -/
def inRange (lo hi v : Nat) : Option Nat := if lo ≤ v ∧ v ≤ hi then some v else none

/-- A signed number within lo..hi. -/
def inRangeInt (lo hi v : Int) : Option Int := if lo ≤ v ∧ v ≤ hi then some v else none

/-- One byte within lo..hi. -/
def byteIn (blk : List Byte) (off lo hi : Nat) : Option Nat := inRange lo hi (readU blk off 1)

/-- A yes or no: any value other than 0 and 1 is out of range (R7, R193). -/
def boolAt (blk : List Byte) (off : Nat) : Option Bool := (byteIn blk off 0 1).map (· = 1)

/-- A port by number (R193). -/
def portAt (blk : List Byte) (off : Nat) : Option Port :=
  match readU blk off 1 with
  | 0 => some .pa | 1 => some .pb | 2 => some .pc | _ => none

/-- A station 0..5. -/
def stationAt (blk : List Byte) (off : Nat) : Option Station :=
  let v := readU blk off 1
  if h : v < 6 then some ⟨v, h⟩ else none

/-- A value behind a presence byte: the presence byte is 0 or 1, and the value is read only behind a 1 (log entry 18). -/
def optionalAt {α : Type} (blk : List Byte) (off : Nat) (value : Option α) : Option (Option α) :=
  match readU blk off 1 with
  | 0 => some none
  | 1 => value.map some
  | _ => none

/-- A job kind by number: MEASURE 0, OFFSET_CAL 1, VERIFY 2. -/
def jobKindAt (blk : List Byte) (off : Nat) : Option JobKind :=
  match readU blk off 1 with
  | 0 => some .measure | 1 => some .offsetCal | 2 => some .verify | _ => none

/-- A profile by number: SP 0, RB 1. -/
def profileAt (blk : List Byte) (off : Nat) : Option Profile :=
  match readU blk off 1 with
  | 0 => some .sp | 1 => some .rb | _ => none

/-- The handle of a command that names a job: the first byte of the block (R1). -/
def handleAt (blk : List Byte) : Handle := BitVec.ofNat 8 (readU blk 0 1)

/-- JOB_OPEN's parameters in the order of R2's table without the owner (R7): offsets kind 0, priority 1, burst 2,
specimen id 3, indenter 5, objective 6, force 7, loading time 11, dwell 12, approach speed 14, travel limit 16,
half-size 18, illumination 20, threshold 21 and 22, use fallback 23, convert 24, reference 25, tolerance 29.
The reference and the tolerance are checked and kept for VERIFY alone, and an OFFSET_CAL job never uses a fallback. -/
def jobOpenParams (blk : List Byte) : Option JobParams := do
  let kind ← jobKindAt blk 0
  let priority ← byteIn blk 1 0 7
  let burst ← byteIn blk 2 1 16
  let indenter ← stationAt blk 5
  let objective ← stationAt blk 6
  let force ← inRange 50 500000 (readU blk 7 4)
  let loadTime ← byteIn blk 11 20 150
  let dwell ← inRange 10 999 (readU blk 12 2)
  let approach ← inRange 10 500 (readU blk 14 2)
  let travel ← inRange 100 5000 (readU blk 16 2)
  let roi ← inRange 32 480 (readU blk 18 2)
  let paired ← boolAt blk 20
  let threshold ← optionalAt blk 21 (byteIn blk 22 1 254)
  let useFallback ← boolAt blk 23
  let convert ← boolAt blk 24
  let reference ← if kind = .verify then (inRange 100 400000 (readU blk 25 4)).map some else some none
  let tolerance ← if kind = .verify then (byteIn blk 29 1 100).map some else some none
  return {
    kind, priority, burst, specimen := readU blk 3 2, indenter, objective, force, loadTime, dwell, approach, travel, roi
    illum := if paired then .paired else .single
    threshold, useFallback := useFallback && kind != .offsetCal, convert, reference, tolerance }

/-- One point of POINTS_ADD at an offset: x, y, tag (R10). -/
def pointAt (blk : List Byte) (off : Nat) : Option (Int × Int × Nat) := do
  let x ← inRangeInt (-2000000) 2000000 (readI blk off 4)
  let y ← inRangeInt (-2000000) 2000000 (readI blk (off + 4) 4)
  return (x, y, readU blk (off + 8) 2)

/-- `n` points from an offset on. -/
def pointsAt (blk : List Byte) : Nat → Nat → Option (List (Int × Int × Nat))
  | _, 0 => some []
  | off, n + 1 => do
    let p ← pointAt blk off
    let ps ← pointsAt blk (off + 10) n
    return p :: ps

/-- POINTS_ADD: handle 0, count 1, MORE 2, points from 3 (R10). The entries beyond the count are not read. -/
def pointsAddParams (blk : List Byte) : Option (Bool × List (Int × Int × Nat)) := do
  let count ← byteIn blk 1 0 24
  let more ← boolAt blk 2
  let pts ← pointsAt blk 3 count
  return (more, pts)

/-- JOB_SET_PRIORITY: handle 0, priority 1 (R14). -/
def priorityParam (blk : List Byte) : Option Nat := byteIn blk 1 0 7

/-- A record id: bytes 0 and 1 (R159, R161). -/
def recordIdParam (blk : List Byte) : Word16 := BitVec.ofNat 16 (readU blk 0 2)

/-- IMAGE_READ: image id 0, row 2, start column 4, count 6 (R116). -/
def imageReadParams (blk : List Byte) : Option (Word16 × Nat × Nat × Nat) := do
  let row ← inRange 0 959 (readU blk 2 2)
  let col ← inRange 0 959 (readU blk 4 2)
  let count ← byteIn blk 6 1 240
  return (BitVec.ofNat 16 (readU blk 0 2), row, col, count)

/-- MAP_CLEAR: scope 0 (ONE 0, ALL 1), specimen id 1, read only for ONE (R168). `none` inside is ALL. -/
def mapClearParams (blk : List Byte) : Option (Option Nat) :=
  match readU blk 0 1 with
  | 0 => some (some (readU blk 1 2))
  | 1 => some none
  | _ => none

/-- The seq of a stage answer (R41). -/
def seqParam (blk : List Byte) : Byte := BitVec.ofNat 8 (readU blk 0 1)

/-- The INDENTER fields of STATION_WRITE: profile 2, minimum 3, maximum 7, contact threshold 11 (R172, R173). -/
def indenterAt (blk : List Byte) : Option Indenter := do
  let profile ← profileAt blk 2
  let minForce ← inRange 50 500000 (readU blk 3 4)
  let maxForce ← inRange minForce 500000 (readU blk 7 4)
  let threshold ← inRange 1 (minForce - 1) (readU blk 11 4)
  return { profile, minForce, maxForce, threshold }

/-- The OBJECTIVE fields of STATION_WRITE: cx 15, cy 17, S 19, corr 23, dx 25, dy 29, exposure 33, gain shift 35,
fallback 36 and 37 (R172, R173). A fallback never names the record's own station. -/
def objectiveAt (blk : List Byte) (own : Station) : Option Objective := do
  let cx ← inRange 0 1280 (readU blk 15 2)
  let cy ← inRange 0 1024 (readU blk 17 2)
  let scale ← inRange 256 4194303 (readU blk 19 4)
  let corr ← inRangeInt (-255) 255 (readI blk 23 2)
  let dx ← inRangeInt (-200000) 200000 (readI blk 25 4)
  let dy ← inRangeInt (-200000) 200000 (readI blk 29 4)
  let exposureUs ← inRange 50 50000 (readU blk 33 2)
  let gain ← byteIn blk 35 0 2
  let fallback ← optionalAt blk 36 ((stationAt blk 37).filter (· ≠ own))
  return { cx, cy, scale, corr, dx, dy, exposureUs, gain, fallback }

/-- STATION_WRITE: station 0, kind 1 (EMPTY 0, INDENTER 1, OBJECTIVE 2), then the fields; only those of the kind
written are read (R173). -/
def stationWriteParams (blk : List Byte) : Option (Station × StationRec) := do
  let n ← stationAt blk 0
  match readU blk 1 1 with
  | 0 => return (n, .empty)
  | 1 => return (n, .indenter (← indenterAt blk))
  | 2 => return (n, .objective (← objectiveAt blk n))
  | _ => none

/-- Both coordinates strictly increase from each point to the next (R84, R174). -/
def strictlyRising : List (Int × Int) → Bool
  | (a, b) :: (c, d) :: rest => a < c && b < d && strictlyRising ((c, d) :: rest)
  | _ => true

/-- The first coordinates strictly increase (R175). -/
def firstRising : List (Int × Int) → Bool
  | (a, _) :: (c, d) :: rest => a < c && firstRising ((c, d) :: rest)
  | _ => true

/-- `n` curve points (raw code, mN) from an offset on, six bytes each (R174). -/
def curveAt (blk : List Byte) : Nat → Nat → Option (List (Int × Int))
  | _, 0 => some []
  | off, n + 1 => do
    let raw := readI blk off 2
    let force ← inRangeInt (-100000) 1000000 (readI blk (off + 2) 4)
    let rest ← curveAt blk (off + 6) n
    return (raw, force) :: rest

/-- FORCE_CURVE_WRITE: count 0, the points from 1, then depth zero and depth scale (R174). -/
def forceCurveParams (blk : List Byte) : Option (List (Int × Int) × Int × Nat) := do
  let count ← byteIn blk 0 0 8
  let pts ← curveAt blk 1 count
  if count = 1 || !strictlyRising pts then none
  else return (pts, readI blk (1 + 6 * count) 2, readU blk (3 + 6 * count) 2)

/-- `n` conversion points (hardness, secondary) from an offset on, eight bytes each (R175). -/
def conversionAt (blk : List Byte) : Nat → Nat → Option (List (Int × Int))
  | _, 0 => some []
  | off, n + 1 => do
    let hard ← inRange 0 400000 (readU blk off 4)
    let sec ← inRangeInt (-1000000) 1000000 (readI blk (off + 4) 4)
    let rest ← conversionAt blk (off + 8) n
    return ((hard : Int), sec) :: rest

/-- CONVERSION_WRITE: profile 0, count 1, the points from 2 (R175). -/
def conversionParams (blk : List Byte) : Option (Profile × List (Int × Int)) := do
  let profile ← profileAt blk 0
  let count ← byteIn blk 1 0 16
  let pts ← conversionAt blk 2 count
  if count = 1 || !firstRising pts then none else return (profile, pts)

/-- SETTINGS_WRITE in the order of R176's table: stage port 0, rotation mode 1 (ON 0, OFF 1), settle timeout 2, prescale
3 (1, 4 or 16 itself), period 4, N 6, camera mode 7, edge level 8, minimum contrast 9, verification interval 10. -/
def settingsParams (blk : List Byte) : Option Settings := do
  let stagePort ← portAt blk 0
  let rotationOff ← boolAt blk 1
  let settleTimeout ← byteIn blk 2 1 60
  let prescale ← (byteIn blk 3 1 16).filter fun v => v = 1 || v = 4 || v = 16
  let period ← inRange 1 256 (readU blk 4 2)
  let n ← byteIn blk 6 1 16
  let tenBit ← boolAt blk 7
  let edgeLevel ← byteIn blk 8 1 16
  let minContrast ← byteIn blk 9 1 255
  return {
    stagePort, rotationOn := !rotationOff, settleTimeout, round := { prescale, period, n }
    camera := if tenBit then .bits10 else .bits8
    edgeLevel, minContrast, interval := readU blk 10 2 }

/-- The self-test items of a group and item number, in the order they run (R182). -/
def testItems (group item : Nat) : Option (List TestItem) :=
  match group, item with
  | 0, 0 => some [.pattern, .address, .force, .depth, .turret]
  | 1, 0 => some [.pattern, .address]
  | 1, 1 => some [.pattern]
  | 1, 2 => some [.address]
  | 2, 0 => some [.force, .depth]
  | 2, 1 => some [.force]
  | 2, 2 => some [.depth]
  | 3, 0 => some [.turret]
  | 3, 1 => some [.turret]
  | _, _ => none

/-- SELFTEST: group 0, item 1 (R182). -/
def selftestParams (blk : List Byte) : Option (List TestItem) := testItems (readU blk 0 1) (readU blk 1 1)

/-- PORT_CONFIG: LEVEL 0, PULSE 1 (R198). -/
def attnModeParam (blk : List Byte) : Option AttnMode :=
  (boolAt blk 0).map fun pulse => if pulse then .pulse else .level

end Sys2Proof.Machine
end

