-- ==== Sys2Proof/Machine/Mailbox.lean ====
section
/-! DEFINITION. The mailbox ports: answers (R191, R194), the take of a posted command (R190), control-word writes (R189),
the SPI write transaction (R188), the attention line (R196, R197) and PORT_CONFIG (R198). -/

namespace Sys2Proof.Machine

/-! ## Answers -/

/-- Refusal reasons, coded 1 to 15 (R194). -/
inductive RefuseReason where
  | badCommand | badParam | notCalibrated | tableFull | resultsFull | pointsFull | noSuchJob | notOwner | wrongState
  | noRecord | notStagePort | staleOrder | busy | stopActive | imageGone
deriving DecidableEq, Repr

/-- The code of a refusal reason (R194). -/
def reasonCode : RefuseReason → Nat
  | .badCommand => 1 | .badParam => 2 | .notCalibrated => 3 | .tableFull => 4 | .resultsFull => 5 | .pointsFull => 6
  | .noSuchJob => 7 | .notOwner => 8 | .wrongState => 9 | .noRecord => 10 | .notStagePort => 11 | .staleOrder => 12
  | .busy => 13 | .stopActive => 14 | .imageGone => 15

/-- The answer to a command: OK with a payload, or REFUSED with a reason and its payload (R194). -/
inductive Reply where
  | ok (payload : List Byte)
  | refused (r : RefuseReason) (payload : List Byte)
deriving DecidableEq, Repr

/-- The result and reason bytes of a reply (R187). -/
def Reply.head : Reply → List Byte
  | .ok _ => u8 0 ++ u8 0
  | .refused r _ => u8 1 ++ u8 (reasonCode r)

/-- The payload of a reply. -/
def Reply.payload : Reply → List Byte
  | .ok b => b
  | .refused _ b => b

/-- A refusal without a payload. -/
def refuse (r : RefuseReason) : Reply := .refused r []

/-- The response block of a reply to the command a mailbox holds (R187): result, reason, code, tag, payload length,
previous code, payload, zeros. -/
def responseBlock (m : Mailbox) (r : Reply) : List Byte :=
  fitTo 256 (r.head ++ u16 m.code.toNat ++ u8 m.tag.toNat ++ u8 r.payload.length ++ u16 m.prev.toNat ++ r.payload)

/-- The mailbox once a command is answered (R191, R197): the response block, the previous command code, the state ANSWERED,
and the ANSWERED term. -/
def answeredMailbox (m : Mailbox) (r : Reply) : Mailbox :=
  pulsed { m with state := .answered, response := responseBlock m r, prev := m.code }

/-- The answer is written while the mailbox is WORKING; a mailbox that is not takes no answer (R191). -/
def answer (p : Port) (r : Reply) (s : State) : State :=
  if (s.mailbox p).state = .working then s.setMailbox p (answeredMailbox (s.mailbox p) r) else s

/-! ## Taking a command (R190) -/

/-- The port's mailbox is POSTED with this code. -/
def State.posted (s : State) (p : Port) (code : Word16) : Bool :=
  (s.mailbox p).state = .posted && (s.mailbox p).code = code

/-- The take: the mailbox becomes WORKING (R190). -/
def takeCommand (p : Port) (s : State) : State := s.setMailbox p { s.mailbox p with state := .working }

/-- A command taken, carried out by `body` on its command block, and answered within the take. Where no such command is
POSTED on the port there is nothing to take, and the state stays (log entry 3). -/
def runCommand (code : Word16) (p : Port) (body : List Byte → State → State × Reply) (s : State) : State :=
  if s.posted p code then
    let s1 := takeCommand p s
    let out := body (s.mailbox p).block s1
    answer p out.2 out.1
  else s

/-- The command codes (R193). -/
def commandCodes : List Word16 :=
  [0x0101, 0x0102, 0x0103, 0x0104, 0x0105, 0x0106, 0x0107,
   0x0201, 0x0202, 0x0203, 0x0204, 0x0205, 0x0206,
   0x0301, 0x0302,
   0x0401, 0x0402, 0x0403, 0x0404, 0x0405, 0x0406, 0x0407, 0x0408, 0x0409,
   0x0501, 0x0502, 0x0503, 0x0504, 0x0505]

/-- BAD_COMMAND (R190): a POSTED command with a code outside R193 is taken and refused. -/
def execBadCommand (p : Port) (s : State) : Host.Outcome State Fault Refusal :=
  if (s.mailbox p).state = .posted ∧ (s.mailbox p).code ∉ commandCodes then
    .next (answer p (refuse .badCommand) (takeCommand p s))
  else .next s

/-! ## Control-word writes (R189) -/

/-- The state byte of a mailbox state (R187). -/
def mailboxCode : MailboxState → Nat
  | .empty => 0 | .posted => 1 | .working => 2 | .answered => 3

/-- A control-word write of a state byte, a tag and a code (R189): post, withdraw, acknowledge, or ignored. -/
def controlWrite (p : Port) (state tag : Byte) (code : Word16) (s : State) : State :=
  let m := s.mailbox p
  match m.state, state.toNat with
  | .empty, 1 => s.setMailbox p { m with state := .posted, tag := tag, code := code }
  | .posted, 0 => s.setMailbox p { m with state := .empty }
  | .answered, 0 => s.setMailbox p { m with state := .empty }
  | _, _ => s

/-- POST (R189). -/
def execPost (p : Port) (tag : Byte) (code : Word16) (s : State) : Host.Outcome State Fault Refusal :=
  .next (controlWrite p 1 tag code s)

/-- WITHDRAW (R189, R192): the state byte EMPTY is written over a POSTED command, tag and code keep their current values, and
the command is never taken. A withdraw that comes after the take is ignored, and the command's answer stays to be
acknowledged: a take and its answer are one step here, so such a withdraw meets WORKING or ANSWERED (log entry 10). -/
def execWithdraw (p : Port) (s : State) : Host.Outcome State Fault Refusal :=
  .next (if (s.mailbox p).state = .posted then controlWrite p 0 (s.mailbox p).tag (s.mailbox p).code s else s)

/-- ACKNOWLEDGE (R189): the state byte EMPTY is written, tag and code keep their current values. -/
def execAcknowledge (p : Port) (s : State) : Host.Outcome State Fault Refusal :=
  .next (controlWrite p 0 (s.mailbox p).tag (s.mailbox p).code s)

/-- CONTROL_WRITE_IGNORED (R189): a control-word write of these bytes; outside the three allowed cases nothing changes. -/
def execControlWriteIgnored (p : Port) (state tag : Byte) (code : Word16) (s : State) :
    Host.Outcome State Fault Refusal :=
  .next (controlWrite p state tag code s)

/-! ## The SPI write transaction (R188) -/

/-- The four bytes of the control word as they stand (R187). -/
def controlBytes (m : Mailbox) : List Byte := u8 (mailboxCode m.state) ++ u8 m.tag.toNat ++ u16 m.code.toNat

/-- What a write transaction holds until the select is released: the command block and the control word as they would
then stand, and whether a byte of the control word was written. -/
structure HeldWrite where
  block : List Byte
  ctl : List Byte
  touched : Bool
deriving DecidableEq, Repr

/-- One data byte at an address: into the command block, into the control word, or dropped (R187, R188). -/
def HeldWrite.store (h : HeldWrite) (addr : Nat) (b : Byte) : HeldWrite :=
  if addr < 4 then { h with ctl := h.ctl.set addr b, touched := true }
  else if addr < 256 then { h with block := h.block.set (addr - 4) b }
  else h

/-- The data bytes of a transaction, the address rising by one after each and wrapping from 0xFFFF to 0x0000 (R188). -/
def HeldWrite.storeAll (h : HeldWrite) : Nat → List Byte → HeldWrite
  | _, [] => h
  | addr, b :: bs => HeldWrite.storeAll (h.store addr b) ((addr + 1) % 65536) bs

/-- The data bytes of a write take effect: the command block first, then one control-word write if a byte of the
control word was covered (R188). -/
def writeWindow (p : Port) (start : Nat) (data : List Byte) (s : State) : State :=
  let m := s.mailbox p
  let h := HeldWrite.storeAll ⟨m.block, controlBytes m, false⟩ start data
  let s1 := s.setMailbox p { m with block := h.block }
  if h.touched then
    controlWrite p (h.ctl.getD 0 0) (h.ctl.getD 1 0) (BitVec.ofNat 16 (readU h.ctl 2 2)) s1
  else s1

/-- A transaction at its release (R188): a write with a complete address takes effect, anything else changes nothing. -/
def spiTransaction (p : Port) (frame : List Byte) (s : State) : State :=
  match frame with
  | cmd :: hi :: lo :: data => if cmd = 0x10 then writeWindow p (256 * hi.toNat + lo.toNat) data s else s
  | _ => s

/-- The port's select is released: no transaction is in progress on it (R188). -/
def endTransfer (p : Port) (s : State) : State := { s with spi := withPort s.spi p none }

/-- WINDOW_WRITE (R188): the release of a transaction with its whole bytes. -/
def execWindowWrite (p : Port) (frame : List Byte) (s : State) : Host.Outcome State Fault Refusal :=
  .next (endTransfer p (spiTransaction p frame s))

/-! ## The attention line (R196, R197) -/

/-- The four terms of a port, in R196's order: ANSWERED, RESULTS, ORDER, HALTED. -/
def attnTerms (s : State) (p : Port) : List Bool :=
  [ (s.mailbox p).state = .answered,
    !(forPort s.results.untaken p).isEmpty,
    s.settings.stagePort = p && (match s.stage.order with | some o => o.status = .pending | none => false),
    s.arb.head = .halted ]

/-- The attention condition: one or more terms are true (R196). -/
def attnCondition (s : State) (p : Port) : Bool := (attnTerms s p).any id

/-- The level of the port's attention line (R197). -/
def attnLine (s : State) (p : Port) : Bool :=
  match (s.mailbox p).mode with
  | .level => attnCondition s p
  | .pulse => (s.mailbox p).pulseActive

/-- ATTN_PULSE_END (R197): the active pulse ends; a scheduled one starts 2 µs later, by ATTN_PULSE_START. -/
def execAttnPulseEnd (p : Port) (s : State) : Host.Outcome State Fault Refusal :=
  .next (if (s.mailbox p).pulseActive then s.setMailbox p { s.mailbox p with pulseActive := false } else s)

/-- ATTN_PULSE_START (R197): the scheduled pulse starts. -/
def execAttnPulseStart (p : Port) (s : State) : Host.Outcome State Fault Refusal :=
  .next (if (s.mailbox p).pulseScheduled ∧ ¬ (s.mailbox p).pulseActive then
    s.setMailbox p { s.mailbox p with pulseActive := true, pulseScheduled := false } else s)

/-! ## PORT_CONFIG (R198) -/

/-- A port's attention mode set. Another mode ends any pulse; the mode it has already changes nothing (R198). -/
def setAttnMode (p : Port) (mode : AttnMode) (s : State) : State :=
  if (s.mailbox p).mode = mode then s
  else s.setMailbox p { s.mailbox p with mode := mode, pulseActive := false, pulseScheduled := false }

/-- The number of an attention mode (R193). -/
def attnModeCode : AttnMode → Nat
  | .level => 0 | .pulse => 1

/-- PORT_CONFIG's effect: the new mode is set before the answer is written (R198). -/
def portConfigBody (p : Port) (blk : List Byte) (s : State) : State × Reply :=
  match attnModeParam blk with
  | none => (s, refuse .badParam)
  | some mode => (setAttnMode p mode s, .ok (u8 (attnModeCode mode)))

/-- PORT_CONFIG (R198). -/
def execPortConfig (p : Port) (s : State) : Host.Outcome State Fault Refusal :=
  .next (runCommand 0x0505 p (portConfigBody p) s)

end Sys2Proof.Machine
end

