-- ==== Sys2Proof/Machine/Records.lean ====
section
/-! DEFINITION. Writing records: reservations and record ids (R155 to R157), the indent map (R166), the verification
table (R177 to R180), the offset correction (R181), the end of a job (R18, R19) and the end of a point (R58, R59). -/

namespace Sys2Proof.Machine

/-! ## Reservations and record ids -/

/-- A FREE slot becomes RESERVED (R155). -/
def reserveSlot (s : State) : State := { s with results := { s.results with reserved := s.results.reserved + 1 } }

/-- A reservation is released to FREE, which is a decision event (R23, R155). -/
def releaseSlot (s : State) : State :=
  noteDecision { s with results := { s.results with reserved := s.results.reserved - 1 } }

/-- The next value, counting on from `c`, that none of `held` has; `fuel` bounds the values passed over (R156). -/
def nextRecordId (held : List Word16) : Nat → Word16 → Word16
  | 0, c => c + 1
  | fuel + 1, c => if held.contains (c + 1) then nextRecordId held fuel (c + 1) else c + 1

/-- The record id the next record written takes (R156). At most 96 records are held, so 96 values at most are passed. -/
def State.newRecordId (s : State) : Word16 :=
  nextRecordId (s.results.records.map Record.id) Config.resultSlots s.results.counter

/-- A record is written into its reservation: it takes its id, the counter keeps it, the slot becomes UNTAKEN at the end
of the owner's untaken list, and an empty list's RESULTS term becomes true (R156, R157, R169). -/
def writeRecord (r : Record) (s : State) : State :=
  let id := s.newRecordId
  let old := forPort s.results.untaken r.port
  let s1 := { s with results :=
    { s.results with
      reserved := s.results.reserved - 1
      counter := id
      untaken := withPort s.results.untaken r.port (old ++ [{ r with id := id }]) } }
  if old.isEmpty then raiseTerm r.port s1 else s1

/-! ## The indent map (R166) -/

/-- An entry at the end of the map; the oldest goes first when 64 are held (R166). -/
def addMapEntry (e : MapEntry) (s : State) : State :=
  { s with map := (if s.map.length < Config.mapEntries then s.map else s.map.drop (s.map.length + 1 - Config.mapEntries))
      ++ [e] }

/-! ## The verification table (R177 to R180) -/

/-- An entry's state becomes LAPSED, the rest kept (R177). -/
def VerifEntry.lapse (e : VerifEntry) : VerifEntry := { e with verified := false }

/-- The entries that a cover names lapse (R177). -/
def lapseWhere (covers : VerifEntry → Bool) (s : State) : State :=
  { s with verif := { s.verif with entries := s.verif.entries.map fun e => if covers e then e.lapse else e } }

/-- How many entries a lapse changes: those covered that are VERIFIED (R177). -/
def lapsedBy (covers : VerifEntry → Bool) (s : State) : Nat :=
  (s.verif.entries.filter fun e => covers e && e.verified).length

/-- One count of a MEASURE record against an entry (R178). -/
def VerifEntry.count (interval : Nat) (e : VerifEntry) : VerifEntry :=
  if e.verified then
    let n := if e.since < 65535 then e.since + 1 else e.since
    { e with since := n, verified := interval = 0 || n < interval }
  else e

/-- The count of a POINT record of a job (R178). -/
def countRecord (p : JobParams) (s : State) : State :=
  if p.kind = .measure then
    { s with verif := { s.verif with entries := s.verif.entries.map fun e =>
        if e.station = p.indenter && e.force = p.force then e.count s.settings.interval else e } }
  else s

/-- Of two entries, the one a full table gives up: a LAPSED one before a VERIFIED one, then the smaller sequence
(R180). -/
def goesFirst (e f : VerifEntry) : Bool :=
  if e.verified = f.verified then e.seq.toNat < f.seq.toNat else !e.verified

/-- The entry a full table gives up (R180). Of two of one state with equal sequences, which the counter's wrapping allows, it
is the one that stands earlier (log entry 41). -/
def victim : List VerifEntry → Option VerifEntry
  | [] => none
  | e :: es =>
    match victim es with
    | none => some e
    | some f => if goesFirst f e then some f else some e

/-- An entry put into the table: over the entry of its key, at the end, or over the one given up (R180). -/
def putVerifEntry (e : VerifEntry) (es : List VerifEntry) : List VerifEntry :=
  if es.any fun f => f.station = e.station && f.force = e.force then
    es.map fun f => if f.station = e.station && f.force = e.force then e else f
  else if es.length < Config.verifEntries then es ++ [e]
  else
    match victim es with
    | some v => es.map fun f => if f.station = v.station && f.force = v.force then e else f
    | none => es

/-- The mean and deviation of an accumulation against a reference hardness: absent with count 0 (R180). -/
def verifyMean (acc : Accum) (reference : Nat) : Option (Nat × Nat) :=
  if acc.count = 0 then none
  else
    let mean := roundHalfUp acc.hardness acc.count
    some (mean.toNat, (roundHalfUp (((mean - reference).natAbs : Int) * 1000) reference).toNat)

/-- The verdict of a VERIFY job (R180). -/
def verifyVerdict (m : Option (Nat × Nat)) (tolerance : Nat) : Verdict :=
  match m with
  | none => .noValidPoints
  | some (_, dev) => if dev ≤ tolerance then .passed else .failed

/-- The verification table's update at a VERIFY job's FINISHED end (R180). -/
def verifyUpdate (p : JobParams) (acc : Accum) (s : State) : State :=
  let m := verifyMean acc (p.reference.getD 0)
  let seq := s.verif.counter + 1
  let e : VerifEntry :=
    { station := p.indenter, force := p.force, verified := verifyVerdict m (p.tolerance.getD 0) = .passed
      mean := m.map Prod.fst, since := 0, seq := seq }
  { s with verif := { counter := seq, entries := putVerifEntry e s.verif.entries } }

/-! ## Accumulations and the offset correction (R179, R181) -/

/-- The accumulations of the jobs a cover names return to zero (R179, R181). -/
def restartWhere (covers : JobParams → Bool) (s : State) : State :=
  { s with jobs := s.jobs.map fun e =>
      match e.job with
      | some j => if covers j.params then { e with acc := {} } else e
      | none => e }

/-- The mean offset correction of an accumulation in 0.1 µm: absent with count 0 (R181). -/
def offsetMean (acc : Accum) : Option (Int × Int) :=
  if acc.count = 0 then none
  else some (roundHalfUp (roundHalfUp acc.x acc.count) 100, roundHalfUp (roundHalfUp acc.y acc.count) 100)

/-- A correction may be applied to an objective: within ±500, and the new offset within ±200 000, on both axes (R181). -/
def correctionFits (o : Objective) (c : Int × Int) : Bool :=
  -500 ≤ c.1 && c.1 ≤ 500 && -500 ≤ c.2 && c.2 ≤ 500 &&
  -200000 ≤ o.dx + c.1 && o.dx + c.1 ≤ 200000 && -200000 ≤ o.dy + c.2 && o.dy + c.2 ≤ 200000

/-- The verdict of an OFFSET_CAL job against the station's record (R181). -/
def offsetVerdict (r : StationRec) (m : Option (Int × Int)) : OffVerdict :=
  match m, r with
  | none, _ => .noValidPoints
  | some c, .objective o => if correctionFits o c then .applied else .rejectedRange
  | some _, _ => .rejectedRange

/-- An APPLIED correction is added to the objective's offset and restarts every other open OFFSET_CAL job on the same
objective; another verdict leaves the table as it is (R181). `i` is the slot of the job that ends. -/
def offsetCorrection (i : Slot) (p : JobParams) (acc : Accum) (s : State) : State :=
  match offsetMean acc, s.station p.objective with
  | some c, .objective o =>
    if correctionFits o c then
      let s1 := restartWhere (fun q => q.kind = .offsetCal && q.objective = p.objective)
        (s.setStation p.objective (.objective { o with dx := o.dx + c.1, dy := o.dy + c.2 }))
      s1.setSlot i { s1.slot i with acc := acc }
    else s
  | _, _ => s

/-! ## The end of a job (R18, R19) -/

/-- The JOB_END fields of a job that ends with a reason (R165). The kind's own fields are there only for FINISHED. -/
def jobEndBody (j : Job) (acc : Accum) (objective : StationRec) (reason : Reason) : JobEndBody :=
  let verify := j.params.kind = .verify ∧ reason = .finished
  let offset := j.params.kind = .offsetCal ∧ reason = .finished
  let mean := verifyMean acc (j.params.reference.getD 0)
  { reason := reason, openSeq := j.openSeq
    ok := j.ok, failed := j.failed, skipped := j.skipped, voided := j.voided
    mean := if verify then mean else none
    verdict := if verify then some (verifyVerdict mean (j.params.tolerance.getD 0)) else none
    correction := if offset then offsetMean acc else none
    offVerdict := if offset then some (offsetVerdict objective (offsetMean acc)) else none }

/-- The JOB_END record of the job in a slot; its id is given at the write. -/
def jobEndRecord (s : State) (i : Slot) (j : Job) (reason : Reason) : Record :=
  { id := 0, port := j.owner, handle := s.handle i, kind := j.params.kind, specimen := j.params.specimen, status := .ok
    body := .jobEnd (jobEndBody j (s.slot i).acc (s.station j.params.objective) reason) }

/-- What a FINISHED end does to the tables before its record is written: the verification entry of a VERIFY job, the
offset of an OFFSET_CAL job (R19, R180, R181). -/
def jobEndTables (i : Slot) (j : Job) (acc : Accum) (reason : Reason) (s : State) : State :=
  if reason = .finished then
    match j.params.kind with
    | .verify => verifyUpdate j.params acc s
    | .offsetCal => offsetCorrection i j.params acc s
    | .measure => s
  else s

/-- The job's slot is freed, its generation advances by one, and a burst it holds ends (R19, R26). -/
def freeJobSlot (i : Slot) (s : State) : State :=
  let h := s.handle i
  let s1 := s.setSlot i { s.slot i with gen := (s.slot i).gen + 1, job := none }
  if s.arb.holder = some h then { s1 with arb := { s1.arb with holder := none, burst := 0 } } else s1

/-- A job ends with a reason: the tables, its JOB_END record into its own reservation, its slot freed (R19). -/
def endJob (i : Slot) (reason : Reason) (s : State) : State :=
  match (s.slot i).job with
  | some j =>
    freeJobSlot i (writeRecord (jobEndRecord s i j reason) (jobEndTables i j (s.slot i).acc reason s))
  | none => s

/-- The finish test: a CLOSED or CANCELLING job without a point PENDING or granted finishes, CANCELLED if it was
cancelled and FINISHED otherwise (R18). -/
def finishTest (i : Slot) (s : State) : State :=
  match (s.slot i).job with
  | some j =>
    if (j.list = .closed || j.cancelling) && (s.pointsOf i).isEmpty then
      endJob i (if j.cancelling then .cancelled else .finished) s
    else s
  | none => s

/-- The PENDING points of a job leave the store and are counted as skipped (R5, R15, R30). -/
def skipPending (i : Slot) (s : State) : State :=
  let n := (s.pendingOf i).length
  State.updateJob { s with points := s.points.filter fun p => !(p.slot = i && p.state = .pending) } i
    fun j => { j with skipped := j.skipped + n }

/-- The granted point of a job leaves the store (R5). -/
def dropGranted (i : Slot) (s : State) : State :=
  { s with points := s.points.filter fun p => !(p.slot = i && p.state = .granted) }

/-! ## The end of a cycle and of a point (R39, R59) -/

/-- The cycle controller returns to IDLE with its reset values and reports the cycle ended: the head becomes HALTED with
halt on end set, and IDLE otherwise (R38, R39). -/
def cycleReturn (s : State) : State :=
  let halt := s.cycle.haltOnEnd
  let s1 := { s with cycle := {} }
  if halt then haltHead s1 else idleHead s1

/-- A job's counter for a record's status (R59). -/
def countStatus (st : Status) (j : Job) : Job :=
  if st = .ok then { j with ok := j.ok + 1 } else { j with failed := j.failed + 1 }

/-- An OK record of a VERIFY job adds its hardness, one of an OFFSET_CAL job its offsets (R152, R179, R181). -/
def accumulate (kind : JobKind) (st : Status) (hardness : Int) (off : Int × Int) (a : Accum) : Accum :=
  if st = .ok then
    match kind with
    | .verify => { a with hardness := a.hardness + hardness, count := a.count + 1 }
    | .offsetCal => { a with x := a.x + off.1, y := a.y + off.2, count := a.count + 1 }
    | .measure => a
  else a

/-- The point ends (R59): its record is written and counted (R157, R178), the point leaves the store, the job's counter
and accumulation take the record, the finish test is made, and the cycle ends. -/
def endPoint (g : Granted) (j : Job) (st : Status) (body : PointBody) (off : Int × Int) (s : State) : State :=
  let r : Record :=
    { id := 0, port := j.owner, handle := g.handle, kind := j.params.kind, specimen := j.params.specimen, status := st
      body := .point body }
  let s1 := dropGranted g.slot (countRecord j.params (writeRecord r s))
  let s2 := s1.updateJob g.slot (countStatus st)
  let e := s2.slot g.slot
  let s3 := s2.setSlot g.slot
    { e with acc := accumulate j.params.kind st ((body.hardness.getD 0 : Nat) : Int) off e.acc }
  cycleReturn (finishTest g.slot s3)

/-- The flags of a record written on the clearing path: RETRY, FALLBACK and ROI_REDUCED as the cycle left them, and
UNVERIFIED (R58, R149). -/
def clearingFlags (c : Cycle) (j : Job) (v : VerifTable) : Flags :=
  { roiReduced := c.known.roiReduced.getD false, fallback := c.fallbackUsed, retry := c.retryUsed
    unverified := isUnverified v j.params.indenter j.params.force }

/-- The POINT record of the clearing path (R58). -/
def clearingBody (c : Cycle) (g : Granted) (j : Job) (v : VerifTable) : PointBody :=
  { index := g.index, tag := g.tag, x := g.x, y := g.y, objective := c.objective.getD j.params.objective
    flags := clearingFlags c j v
    force := c.known.force, dwellTime := c.known.dwellTime, depth := c.known.depth
    diags := none, hardness := none, secondary := none, imageId := c.known.imageId }

/-- The clearing path's record: with contact made an indent map entry of diagonal 0, then the record with the outcome
as its status, and the point ends (R58, R166). -/
def clearingRecord (g : Granted) (s : State) : State :=
  match (s.slot g.slot).job with
  | some j =>
    let body := clearingBody s.cycle g j s.verif
    let s1 :=
      if s.cycle.contactMade then
        addMapEntry { specimen := j.params.specimen, x := g.x, y := g.y, diag := 0, recordId := s.newRecordId } s
      else s
    endPoint g j (s.cycle.outcome.getD .aborted) body (0, 0) s1
  | none => cycleReturn s

/-- In CLEARING with the pending set empty the point's record is written and the point ends; after a void there is no
granted point and no record (R56, R62). -/
def clearingDone (s : State) : State :=
  if s.cycle.state = .clearing && !s.cycle.pendStage && !s.cycle.pendTurret && !s.cycle.pendActuator then
    match s.cycle.granted with
    | some g => clearingRecord g s
    | none => cycleReturn s
  else s

end Sys2Proof.Machine
end

