-- ==== Sys2Proof/Machine/Hardness.lean ====
section
/-! DEFINITION. The hardness unit (R138, R139, R150 to R152): from the measured values to the POINT record, the map entry and
the end of the point, in one event. -/

namespace Sys2Proof.Machine

/-- An indenter with every field 0, read for a station that is not of kind INDENTER; the station check (R30) keeps that
from arising in a cycle (log entry 23). -/
def noIndenter : Indenter := { profile := .sp, minForce := 0, maxForce := 0, threshold := 0 }

/-- The INDENTER record of a station. -/
def State.indenterOf (s : State) (n : Station) : Indenter :=
  match s.station n with
  | .indenter i => i
  | _ => noIndenter

/-- The hardness of a hand-over: absent for a force of 0 or less (R142). -/
def hardnessOf (k : Known) (p : Profile) (d : Int) : Option Nat := k.force.bind fun f => hardnessValue p f d

/-- The flags of a hardness record (8.1, R139). -/
def hardnessFlags (j : Job) (c : Cycle) (p : Profile) (m : Measured) (s : State) (g : Granted) : Flags :=
  let d := diagonalUsed p m.dx m.dy
  let f := c.known.force.getD 0
  let overCap := isOver p f d
  { asymmetric := isAsymmetric p m.dx m.dy
    shape := isMisshapen p m.dx m.dy
    overCap := overCap
    underFloor := isUnder p f d
    smallImage := m.small
    roiReduced := c.known.roiReduced.getD false
    fallback := c.fallbackUsed
    retry := c.retryUsed
    spacing := hasSpacing s.map j.params.specimen g.x g.y (mapDiagonal d)
    unverified := isUnverified s.verif j.params.indenter j.params.force
    outOfTable := (secondaryOf j.params.convert s.cal p (hardnessOf c.known p d) overCap).2 }

/-- The POINT record of a measured point (R150). -/
def hardnessBody (j : Job) (c : Cycle) (p : Profile) (m : Measured) (s : State) (g : Granted) : PointBody :=
  let d := diagonalUsed p m.dx m.dy
  let h := hardnessOf c.known p d
  { index := g.index, tag := g.tag, x := g.x, y := g.y
    objective := c.objective.getD j.params.objective
    flags := hardnessFlags j c p m s g
    force := c.known.force, dwellTime := c.known.dwellTime, depth := c.known.depth
    diags := some (m.dx, m.dy)
    hardness := h
    secondary := (secondaryOf j.params.convert s.cal p h (isOver p (c.known.force.getD 0) d)).1
    imageId := c.known.imageId }

/-- The status of a measured point: NO_EDGE without a hardness, OK otherwise (R142, R151). -/
def hardnessStatus (h : Option Nat) : Status := if h.isNone then .noEdge else .ok

/-- The hand-over (R139): the record is settled, the indentation joins the map, the record is written and the point
ends. -/
def hardnessRecord (g : Granted) (j : Job) (m : Measured) (s : State) : State :=
  let p := (s.indenterOf j.params.indenter).profile
  let body := hardnessBody j s.cycle p m s g
  let entry : MapEntry :=
    { specimen := j.params.specimen, x := g.x, y := g.y, diag := mapDiagonal (diagonalUsed p m.dx m.dy)
      recordId := s.newRecordId }
  endPoint g j (hardnessStatus body.hardness) body (m.offX, m.offY) (addMapEntry entry s)

end Sys2Proof.Machine
end

