-- ==== Sys2Proof/Machine/Stage.lean ====
section
/-! DEFINITION. The stage order unit: publishing, withdrawing and ending a move order (R40 to R43). -/

namespace Sys2Proof.Machine

/-- A new move order: the seq that follows the last sequence, status PENDING, the settle timer started, and the stage
port's ORDER term true (R40, R42, R197). -/
def publishOrder (kind : OrderKind) (x y : Int) (s : State) : State :=
  let seq := s.stage.lastSeq + 1
  raiseTerm s.settings.stagePort
    { s with stage := { lastSeq := seq, order := some { seq, kind, x, y, status := .pending }, settleTimer := true } }

/-- The PENDING order, if there is one. -/
def State.pendingOrder (s : State) : Option Order := s.stage.order.filter fun o => o.status = .pending

/-- The PENDING order ends with a status and the settle timer stops; without one nothing changes (R41 to R43). -/
def endOrder (status : OrderStatus) (s : State) : State :=
  match s.pendingOrder with
  | some o => { s with stage := { s.stage with order := some { o with status := status }, settleTimer := false } }
  | none => s

/-- The PENDING order is withdrawn (R43). -/
def withdrawOrder (s : State) : State := endOrder .withdrawn s

/-- The number of an order status (R194). -/
def orderStatusCode : Option Order → Nat
  | none => 0
  | some o =>
    match o.status with
    | .pending => 1 | .settled => 2 | .failed => 3 | .expired => 4 | .withdrawn => 5

/-- The payload of a STALE_ORDER refusal: seq and status of the current order (R41, R194). -/
def stalePayload (s : State) : List Byte :=
  u8 (match s.stage.order with | some o => o.seq.toNat | none => 0) ++ u8 (orderStatusCode s.stage.order)

end Sys2Proof.Machine
end

