-- ==== Sys2Proof/Machine/Turret.lean ====
section
/-! DEFINITION. The turret drive on its own: geometry (R65), rotation and homing requests (R68 to R70, R74), counting a
step (R67, R70, R71, R75, R76). What its reports set off in other blocks is in Machine/Flow.lean. -/

namespace Sys2Proof.Machine

/-! ## Geometry (R65) -/

/-- The step position of a station. -/
def stationPos (n : Station) : Nat := 2400 * n.val

/-- The coded width of a station's mark. -/
def markWidth (n : Station) : Nat := 20 + 16 * n.val

/-- A count lies within ±5 of a station's width. -/
def markFits (c : Nat) (n : Station) : Bool := c ≤ markWidth n + 5 && markWidth n ≤ c + 5

/-- The station whose accepted range holds a count; the ranges do not overlap (R65, R76). -/
def stationOfMark (c : Nat) : Option Station := allStations.find? (markFits c)

/-- The step position after a step in a direction, wrapping (R65). -/
def stepPos (d : Direction) (pos : Nat) : Nat :=
  match d with
  | .cw => (pos + 1) % Config.stepsPerTurn
  | .ccw => (pos + (Config.stepsPerTurn - 1)) % Config.stepsPerTurn

/-- Stations clockwise from one to another, 0..5 (R70). -/
def stationsClockwise (m n : Station) : Nat := (n.val + 6 - m.val) % 6

/-- The direction of a rotation: clockwise up to three stations, counter-clockwise beyond (R70). -/
def rotationDir (m n : Station) : Direction := if stationsClockwise m n ≤ 3 then .cw else .ccw

/-- The TRAVEL steps of a rotation (R70). -/
def travelSteps (m n : Station) : Nat :=
  match rotationDir m n with
  | .cw => 2400 * stationsClockwise m n - Config.strokeSteps
  | .ccw => 2400 * (6 - stationsClockwise m n) + Config.strokeSteps

/-! ## State -/

/-- The turret is ROTATING or HOMING. -/
def Turret.moving (t : Turret) : Bool :=
  match t.state with
  | .rotating _ => true
  | .homing _ => true
  | _ => false

/-- The turret is ROTATING. -/
def Turret.rotating (t : Turret) : Bool :=
  match t.state with
  | .rotating _ => true
  | _ => false

/-- The turret's state and last sub-reason replaced. -/
def setTurret (st : TurretState) (sub : Option SubReason) (s : State) : State :=
  { s with turret := { s.turret with state := st, lastSub := sub } }

/-! ## Requests (R68, R69, R74) -/

/-- How a rotation request is answered (R68). -/
inductive RotAnswer where
  | completed
  | accepted
  | refused (r : SubReason)
deriving DecidableEq, Repr

/-- How the drive answers a rotation request in a state (R68, R69). Outside PARKED the answer is R68's, NOT_HOMED or
IN_MOTION, whatever the actuator's state (log entry 23). -/
def rotationAnswer (t : TurretState) (target : Station) (act : ActState) : RotAnswer :=
  match t with
  | .parked m => if m = target then .completed else if act = .retracted then .accepted else .refused .interlock
  | .unknown => .refused .notHomed
  | .fault => .refused .notHomed
  | .rotating _ => .refused .inMotion
  | .homing _ => .refused .inMotion

/-- The motion an accepted rotation starts with (R68, R70). -/
def startRotation (m target : Station) (req : TurretReq) : Rotation :=
  { src := m, target := target, dir := rotationDir m target, phase := .travel (travelSteps m target)
    pos := stationPos m, req := req }

/-- A rotation request: accepted, the drive becomes ROTATING; refused, only the last sub-reason changes (R68). The gated
count is 0 from the acceptance on: the rules clear it at the stroke start alone (R70), and the worked example of 4.6 shows
0 through TRAVEL (log entry 34). -/
def rotationRequest (req : TurretReq) (target : Station) (s : State) : State :=
  match rotationAnswer s.turret.state target s.act.state with
  | .completed => s
  | .accepted =>
    match s.turret.state with
    | .parked m =>
      { s with turret := { s.turret with state := .rotating (startRotation m target req), gated := 0 } }
    | _ => s
  | .refused r => setTurret s.turret.state (some r) s

/-- Why a homing request is refused: the actuator not RETRACTED, or the turret in motion (R74). -/
def homingRefusal (s : State) : Option SubReason :=
  if s.act.state ≠ .retracted then some .interlock
  else if s.turret.moving then some .inMotion
  else none

/-- A homing request of the arbiter: HOMING in SEARCH, the sensor read once where the disc stands (R75), or refused with
HOME_FAIL recorded (R74). -/
def homingRequest (s : State) : State :=
  match homingRefusal s with
  | some r => recordFault .homeFail (some r) (setTurret s.turret.state (some r) s)
  | none =>
    { s with turret :=
      { s.turret with state := .homing { phase := .search (!s.pins.sensor), searched := 0 }, gated := 0 } }

/-! ## Counting a step (R67) -/

/-- A step counted in a rotation, the sensor read at it: TRAVEL until its steps are done, STROKE for 160 steps counting the
active ones. A step beyond is not asked for, not counted and not read (log entry 7). -/
def countRotationStep (sensor : Bool) (r : Rotation) (gated : Nat) : Rotation × Nat :=
  match r.phase with
  | .travel (left + 1) => ({ r with phase := .travel left, pos := stepPos r.dir r.pos, reading := sensor }, gated)
  | .travel 0 => (r, gated)
  | .stroke done clear =>
    if done < Config.strokeSteps then
      ({ r with phase := .stroke (done + 1) clear, pos := stepPos .cw r.pos, reading := sensor },
        if sensor then gated + 1 else gated)
    else (r, gated)

/-- A step counted in SEARCH (R75): the sensor must have read inactive before an active reading starts a mark. -/
def countSearchStep (sensor seenInactive : Bool) (h : Homing) (gated : Nat) : Homing × Nat :=
  if seenInactive && sensor then ({ phase := .mark, searched := h.searched + 1 }, 1)
  else ({ phase := .search (seenInactive || !sensor), searched := h.searched + 1 }, gated)

/-- A placement step: 20 of them (R75, R76). -/
def countPlaceStep (n : Station) (done pos : Nat) (h : Homing) : Homing :=
  if done < Config.placeSteps then
    { phase := .place n (done + 1) (stepPos .cw pos), searched := h.searched + 1 }
  else h

/-- The step position at the end of station n's mark: 2400 × n − 20 (R76). -/
def markEndPos (n : Station) : Nat := (stationPos n + (Config.stepsPerTurn - 20)) % Config.stepsPerTurn

/-- The turret drive publishes FAULT after a failed motion, with its sub-reason (R73, R77). -/
def turretFault (sub : SubReason) (s : State) : State := setTurret .fault (some sub) s

end Sys2Proof.Machine
end

