-- ==== Sys2Proof/Machine/Cycle.lean ====
section
/-! DEFINITION. The cycle controller's own moves that ask nothing of the actuator: entering POSITIONING, VIEWING and CLEARING
(R44, R48, R56), failures (R45, R47, R49, R53, R57), the fallback decision (R54), and what it makes of the actuator's
reports (R46, R47, R56). Entering the other states is in Machine/Flow.lean. -/

namespace Sys2Proof.Machine

/-- The actuator is at rest for the clearing path: RETRACTED or STALLED (R56). -/
def Actuator.atRest (a : Actuator) : Bool := a.state = .retracted || a.state = .stalled

/-- The granted point and its job, which stays in the table while the point is granted (R38). -/
def State.cycleJob (s : State) : Option (Granted × Job) :=
  match s.cycle.granted with
  | some g => ((s.slot g.slot).job).map fun j => (g, j)
  | none => none

/-- The cycle controller changed. -/
def onCycle (f : Cycle → Cycle) (s : State) : State := { s with cycle := f s.cycle }

/-- The known values changed. -/
def onKnown (f : Known → Known) (s : State) : State := onCycle (fun c => { c with known := f c.known }) s

/-! ## Clearing (R56, R57) -/

/-- CLEARING as it is entered: STAGE leaves the pending set, TURRET stays if a rotation is in flight, ACTUATOR stays if
the actuator is neither RETRACTED nor STALLED (R56). ACTUATOR is not added: a dropped spindle that lifts by itself when a
refused rotation fails the point is not waited for (log entry 39). -/
def clearingCycle (t : Turret) (a : Actuator) (c : Cycle) : Cycle :=
  { c with
    state := .clearing, pendStage := false, pendTurret := c.pendTurret && t.rotating
    pendActuator := c.pendActuator && !a.atRest }

/-- Work in progress is abandoned and a PENDING order withdrawn, on the way into CLEARING (R43, R56, R115, R135). -/
def dropWork (s : State) : State := withdrawOrder (abandonMeasure (abandonCapture s))

/-- CLEARING is entered, and the record follows at once when nothing is pending (R56). -/
def enterClearing (s : State) : State :=
  let s1 := dropWork s
  clearingDone (onCycle (clearingCycle s1.turret s1.act) s1)

/-- A failure ends the point's work: the outcome is the reason, and the cycle enters CLEARING (R55). -/
def failPoint (st : Status) (s : State) : State := enterClearing (onCycle (fun c => { c with outcome := some st }) s)

/-- An equipment failure also sets halt on end (R55). -/
def failEquipment (st : Status) (s : State) : State := failPoint st (onCycle (fun c => { c with haltOnEnd := true }) s)

/-- A turret failure report reaches the cycle controller: TURRET leaves the pending set; in CLEARING the outcome is kept
(R45, R49, R57). -/
def cycleTurretFailed (s : State) : State :=
  match s.cycle.state with
  | .positioning => failEquipment .turretFault (onCycle (fun c => { c with pendTurret := false }) s)
  | .viewing => failEquipment .turretFault (onCycle (fun c => { c with pendTurret := false }) s)
  | .clearing => clearingDone (onCycle (fun c => { c with pendTurret := false, haltOnEnd := true }) s)
  | _ => s

/-! ## Asking the turret and the stage (R44, R48) -/

/-- The turret is asked for a station unless it is PARKED there: accepted, TURRET is pending; refused, TURRET_FAULT with
the sub-reason goes to the arbiter and the point fails (R44, R73). -/
def askTurret (target : Station) (s : State) : State :=
  match rotationAnswer s.turret.state target s.act.state with
  | .completed => s
  | .accepted => onCycle (fun c => { c with pendTurret := true }) (rotationRequest .cycle target s)
  | .refused r => cycleTurretFailed (recordFault .turretFault (some r) (rotationRequest .cycle target s))

/-- A move order is asked and STAGE is pending (R40, R44, R48). -/
def askStage (kind : OrderKind) (x y : Int) (s : State) : State :=
  onCycle (fun c => { c with pendStage := true }) (publishOrder kind x y s)

/-- POSITIONING is entered with a point of a job (R39, R44). -/
def enterPositioning (g : Granted) (p : JobParams) (s : State) : State :=
  askTurret p.indenter (askStage .indentPos g.x g.y
    (onCycle (fun c => { c with state := .positioning, granted := some g, objective := some p.objective }) s))

/-- VIEWING is entered with an objective in use and its offset as it stands (R48). -/
def enterViewing (s : State) : State :=
  match s.cycle.granted, s.cycle.objective with
  | some g, some n =>
    let o := s.objectiveOf n
    askTurret n (askStage .viewPos (g.x + o.dx) (g.y + o.dy) (onCycle (fun c => { c with state := .viewing }) s))
  | _, _ => s

/-! ## The fallback (R54) -/

/-- The fallback station of R54, when its four conditions hold. -/
def State.fallbackStation (s : State) : Option Station :=
  match s.cycleJob with
  | none => none
  | some (_, j) =>
    if j.params.useFallback && s.cycle.objective = some j.params.objective && !s.cycle.fallbackUsed then
      match (s.objectiveOf j.params.objective).fallback with
      | some n =>
        match s.station n with
        | .objective _ => if n = j.params.objective then none else some n
        | _ => none
      | none => none
    else none

/-- A capture too small or a measurement EDGE_CLIPPED: the fallback, or the failure EDGE_CLIPPED (R54). -/
def decideFallback (s : State) : State :=
  match s.fallbackStation with
  | some n =>
    enterViewing (onKnown (fun k => { k with hEff := none, roiReduced := none })
      (onCycle (fun c => { c with fallbackUsed := true, objective := some n }) s))
  | none => failPoint .edgeClipped s

/-! ## The actuator's reports (R46, R47, R56, R60) -/

/-- The contact report (R46). -/
def cycleContact (s : State) : State :=
  if s.cycle.state = .indenting then onCycle (fun c => { c with contactMade := true }) s else s

/-- The dwell done report: force, dwell time and depth become known (R46). -/
def cycleDwellDone (force : Int) (ms : Nat) (depth : Option Int) (s : State) : State :=
  if s.cycle.state = .indenting then
    onKnown (fun k => { k with force := some force, dwellTime := some ms, depth := depth }) s
  else s

/-- A depth that comes with a failure or abandoned report becomes known (R46, R47, R60). -/
def cycleDepth (depth : Option Int) (s : State) : State :=
  match depth with
  | some d => onKnown (fun k => { k with depth := some d }) s
  | none => s

/-- A failure report of the actuator (R47, R57). A point-local one is NO_CONTACT, LOAD_TIMEOUT or DWELL_UNSTABLE; of the
equipment ones ACTUATOR_STALL takes ACTUATOR out of the pending set. -/
def cycleActuatorFailed (st : Status) (depth : Option Int) (s : State) : State :=
  let stalled := st = .actuatorStall
  let equipment := stalled ∨ st = .overload
  let s1 := onCycle (fun c => { c with pendActuator := c.pendActuator && !stalled }) s
  match s.cycle.state with
  | .indenting =>
    let s2 := cycleDepth depth s1
    if equipment then failEquipment st s2 else failPoint st s2
  | .clearing => clearingDone (if equipment then onCycle (fun c => { c with haltOnEnd := true }) s1 else s1)
  | _ => s

/-- The abandoned report after a STOP: its depth becomes known, ACTUATOR stays pending (R60, R100). -/
def cycleAbandoned (depth : Option Int) (s : State) : State :=
  if s.cycle.state = .clearing then cycleDepth depth s else s

/-- The retracted report: in INDENTING the cycle enters VIEWING, in CLEARING ACTUATOR leaves the pending set (R46, R56). -/
def cycleRetracted (s : State) : State :=
  match s.cycle.state with
  | .indenting => enterViewing (onCycle (fun c => { c with pendActuator := false }) s)
  | .clearing => clearingDone (onCycle (fun c => { c with pendActuator := false }) s)
  | _ => s

end Sys2Proof.Machine
end

