-- ==== Sys2Proof/Machine/Actuator.lean ====
section
/-! DEFINITION. The acquisition unit's rounds (R81 to R87) and the load actuator (R88 to R101). The actuator's reports go
straight to the cycle controller (Machine/Cycle.lean) and to the arbiter. -/

namespace Sys2Proof.Machine

/-- The actuator changed. -/
def onAct (f : Actuator → Actuator) (s : State) : State := { s with act := f s.act }

/-! ## Coming to rest (R89, R97) -/

/-- The retracted report to the arbiter: in start-up and in recovery it asks for homing (R21, R35). -/
def arbiterRetracted (s : State) : State :=
  match s.arb.head with
  | .unready => homingRequest s
  | .recovering => homingRequest s
  | _ => s

/-- The retracted report to a requester. -/
def reportRetracted (who : Option (ActReq × Asked)) (s : State) : State :=
  match who with
  | some (.arbiter, _) => arbiterRetracted s
  | some (.cycle, _) => cycleRetracted s
  | none => s

/-- The approach starts with a request's parameters: tare and reference depth from the latest round, the items of the
cycle cleared (R91, R92). -/
def startApproach (p : IndentParams) (tare : Int) (ref : Int) (s : State) : State :=
  { s with act :=
    { s.act with
      state := .approaching, requester := some (.cycle, .indent), held := none, params := some p
      tare := tare, refDepth := some ref
      contactMade := false, contactForce := none, contactDepth := none, target := none
      dwellSum := 0, dwellCount := 0, dwellMean := none, dwellTime := none, penetration := none, lastFailure := none } }

/-- An indent request that can start: the approach, or NO_CONTACT and then retracted when a reading is absent (R91). -/
def beginIndent (p : IndentParams) (s : State) : State :=
  match s.acq.force, s.acq.depth with
  | some f, some d => startApproach p f d s
  | _, _ =>
    cycleRetracted (cycleActuatorFailed .noContact none
      (onAct (fun a => { a with held := none, lastFailure := some .noContact }) s))

/-- A held indent starts when the actuator is RETRACTED with the turret at rest (R91, R97). -/
def startHeld (s : State) : State :=
  match s.act.held with
  | some p => if s.act.state = .retracted && !s.turret.moving then beginIndent p s else s
  | none => s

/-- The actuator becomes RETRACTED: the stall timer stops, the requester is told and becomes none, and a held indent
starts (R89, R97). -/
def becomeRetracted (s : State) : State :=
  let who := s.act.requester
  startHeld (reportRetracted who
    (onAct (fun a => { a with state := .retracted, stallTimer := false, requester := none }) s))

/-- RETRACTING is entered with the stall timer running; with the top limit already active the actuator is RETRACTED at
once (R97, R98, R100). -/
def enterRetracting (s : State) : State :=
  let s1 := onAct (fun a => { a with state := .retracting, stallTimer := true, loadTimer := false, dwellTimer := false }) s
  if s.pins.topLimit then becomeRetracted s1 else s1

/-- UNLOADING is entered: the stall timer starts, the load and dwell timers are stopped (R97). -/
def enterUnloading (s : State) : State :=
  onAct (fun a => { a with state := .unloading, stallTimer := true, loadTimer := false, dwellTimer := false }) s

/-- In UNLOADING a tared force below the contact threshold ends the unloading (R97). -/
def judgeUnloading (p : IndentParams) (tared : Int) (s : State) : State :=
  if s.act.state = .unloading ∧ tared < (p.threshold : Int) then enterRetracting s else s

/-! ## Reports with a depth (R95, R96, R98, R100) -/

/-- The penetration reached at a depth, when contact was made: the depth minus the contact depth, or 0 if negative. With
either depth absent it is absent (log entry 38). -/
def Actuator.reached (a : Actuator) (depth : Option Int) : Option Int :=
  match a.contactMade, a.contactDepth, depth with
  | true, some c, some d => some (max 0 (d - c))
  | _, _, _ => none

/-- A failure of the cycle: the last failure, the timers stopped, the report to the cycle controller (R96, R98). -/
def failCycle (st : Status) (s : State) : State :=
  cycleActuatorFailed st (s.act.reached s.acq.depth)
    (onAct (fun a => { a with lastFailure := some st, loadTimer := false, dwellTimer := false }) s)

/-! ## The readings of a cycle (R93 to R97) -/

/-- OVERLOAD (R96): more than 110% of the nominal or of the maximum force. -/
def isOverload (p : IndentParams) (f : Int) : Bool := 11 * (p.force : Int) < f * 10 || 11 * (p.maxForce : Int) < f * 10

/-- The entry band of ±1.0% (R94). -/
def inBand (nominal : Nat) (f : Int) : Bool := ((f - nominal).natAbs : Int) * 100 ≤ nominal

/-- Outside the stability limits of ±2.0% (R95). -/
def isUnstable (nominal : Nat) (f : Int) : Bool := (nominal : Int) < ((f - nominal).natAbs : Int) * 50

/-- The target force `t` ms after the contact reading, for a loading time of `full` ms (R94). -/
def rampTarget (contact nominal : Int) (t full : Nat) : Int :=
  if t < full then contact + roundHalfUp ((nominal - contact) * t) full else nominal

/-- The overload's effects (R96): the fault, the failure, UNLOADING, and the same reading judged there (R97). -/
def overload (p : IndentParams) (f : Int) (s : State) : State :=
  judgeUnloading p f (enterUnloading (failCycle .overload (recordFault .overload none s)))

/-- Dwell starts on a reading (R95). -/
def startDwell (p : IndentParams) (f : Int) (s : State) : State :=
  onAct (fun a => { a with
    state := .dwelling, loadTimer := false, target := some (p.force : Int), dwellSum := f, dwellCount := 1
    dwellTimer := true, dwellMs := 0 }) s

/-- A reading in LOADING: overload, then the entry band (R94). -/
def judgeLoading (p : IndentParams) (f : Int) (s : State) : State :=
  if isOverload p f then overload p f s
  else if inBand p.force f then startDwell p f s
  else s

/-- A reading in DWELLING: overload, then stability, then it is counted (R95). -/
def judgeDwelling (p : IndentParams) (f : Int) (s : State) : State :=
  if isOverload p f then overload p f s
  else if isUnstable p.force f then judgeUnloading p f (enterUnloading (failCycle .dwellUnstable s))
  else onAct (fun a => { a with dwellSum := a.dwellSum + f, dwellCount := a.dwellCount + 1 }) s

/-- Contact is made at a reading (R93): the ramp and the load timer start, contact is reported. The contact depth of a
reading whose depth is absent is absent (log entry 38). -/
def makeContact (f : Int) (s : State) : State :=
  cycleContact (onAct (fun a => { a with
    state := .loading, contactMade := true, contactForce := some f, contactDepth := s.acq.depth
    target := some f, loadTimer := true, rampMs := 0 }) s)

/-- The approach has gone past its travel limit (R93); an absent depth passes none (log entry 38). -/
def travelPassed (p : IndentParams) (ref depth : Option Int) : Bool :=
  match ref, depth with
  | some r, some d => (p.travel : Int) * 1000 < d - r
  | _, _ => false

/-- The tests of an approach reading that makes no contact: the travel limit and the saturation (R93). -/
def judgeTravel (p : IndentParams) (s : State) : State :=
  if travelPassed p s.act.refDepth s.acq.depth || s.acq.saturated then enterRetracting (failCycle .noContact s) else s

/-- A reading in APPROACHING: contact first, judged again as a LOADING reading, then the travel limit and the
saturation (R93). -/
def judgeApproach (p : IndentParams) (f : Int) (s : State) : State :=
  if (p.threshold : Int) ≤ f then judgeLoading p f (makeContact f s) else judgeTravel p s

/-- A reading event whose force is absent: in APPROACHING it makes no contact and is tested for travel and saturation
(R93, log entry 38); no run brings one to another state (log entry 23). -/
def forcelessReading (p : IndentParams) (s : State) : State :=
  match s.act.state with
  | .approaching => judgeTravel p s
  | _ => s

/-- A reading event with a tared force, judged in the state the actuator is in (R92 to R97). -/
def taredReading (p : IndentParams) (f : Int) (s : State) : State :=
  match s.act.state with
  | .approaching => judgeApproach p f s
  | .loading => judgeLoading p f s
  | .dwelling => judgeDwelling p f s
  | .unloading => judgeUnloading p f s
  | _ => s

/-- A reading event reaches the actuator (R86, R92): judged by its tared force. -/
def readingEvent (s : State) : State :=
  match s.act.params, s.acq.force with
  | some p, some raw => taredReading p (raw - s.act.tare) s
  | some p, none => forcelessReading p s
  | none, _ => s

/-! ## Timers (R94, R95, R99) -/

/-- The load timer expires in LOADING (R94, R98). -/
def loadTimeout (s : State) : State :=
  if s.act.state = .loading ∧ s.act.loadTimer then enterUnloading (failCycle .loadTimeout s) else s

/-- The dwell mean force (R95). -/
def Actuator.meanForce (a : Actuator) : Int := roundHalfUp a.dwellSum a.dwellCount

/-- Dwell is done (R95): mean force, dwell time and penetration are produced and reported, and UNLOADING is entered. -/
def finishDwell (p : IndentParams) (s : State) : State :=
  let mean := s.act.meanForce
  let ms := p.dwell * 100
  let depth := s.act.reached s.acq.depth
  enterUnloading (cycleDwellDone mean ms depth (onAct (fun a => { a with
    dwellMean := some mean, dwellTime := some ms, penetration := depth, dwellTimer := false, dwellMs := ms }) s))

/-- The dwell timer expires in DWELLING. -/
def dwellDone (s : State) : State :=
  match s.act.params with
  | some p => if s.act.state = .dwelling ∧ s.act.dwellTimer then finishDwell p s else s
  | none => s

/-- A stall reaches the cycle controller when it is the requester or an indent is held (R99). -/
def reportStalled (who : Option (ActReq × Asked)) (held : Option IndentParams) (s : State) : State :=
  let forCycle := match who with | some (.cycle, _) => true | _ => false
  if forCycle || held.isSome then cycleActuatorFailed .actuatorStall none s else s

/-- The stall timer expires in UNLOADING or RETRACTING: STALLED, the fault to the arbiter, the requester told (R99). -/
def stallExpiry (s : State) : State :=
  if (s.act.state = .unloading ∨ s.act.state = .retracting) ∧ s.act.stallTimer then
    let s1 := onAct (fun a => { a with state := .stalled, stallTimer := false, requester := none, held := none }) s
    reportStalled s.act.requester s.act.held (recordFault .actuatorStall none s1)
  else s

/-! ## Requests (R91, R100) -/

/-- An indent request of the cycle controller (R91). With the turret in motion and a reading absent the rule both fails the
request at once and holds it; the turret is tested first and the request is held (log entry 23). -/
def indentRequest (p : IndentParams) (s : State) : State :=
  match s.act.state with
  | .retracted =>
    if s.turret.moving then onAct (fun a => { a with held := some p }) s else beginIndent p s
  | .retracting => onAct (fun a => { a with held := some p }) s
  | _ => cycleActuatorFailed .actuatorStall none (recordFault .actuatorStall none s)

/-- The retract request in LOADING or DWELLING abandons the cycle (R100). -/
def abandonIndent (s : State) : State :=
  enterUnloading (cycleAbandoned (s.act.reached s.acq.depth)
    (onAct (fun a => { a with loadTimer := false, dwellTimer := false }) s))

/-- A retract request (R100). -/
def retractRequest (who : ActReq) (s : State) : State :=
  let s1 := onAct (fun a => { a with requester := some (who, .retract), held := none }) s
  match s.act.state with
  | .retracted => becomeRetracted s1
  | .retracting => s1
  | .approaching => enterRetracting s1
  | .loading => abandonIndent s1
  | .dwelling => abandonIndent s1
  | .unloading => s1
  | .stalled => enterRetracting s1

/-! ## The top limit and the interlock (R89, R90) -/

/-- A retraction that nobody asked for (R90). -/
def dropRetract (s : State) : State :=
  onAct (fun a => { a with state := .retracting, stallTimer := true, requester := none }) s

/-- The top limit becomes active. -/
def topLimitOn (s : State) : State :=
  let s1 := { s with pins := { s.pins with topLimit := true } }
  if s.act.state = .retracting then becomeRetracted s1 else s1

/-- The top limit is lost: an actuator that is RETRACTED with the turret at rest enters RETRACTING (R90). -/
def topLimitOff (s : State) : State :=
  let s1 := { s with pins := { s.pins with topLimit := false } }
  if s.act.state = .retracted && !s.turret.moving then dropRetract s1 else s1

/-- The turret's motion has ended: a RETRACTED actuator whose top limit reads inactive enters RETRACTING, and a held
indent starts otherwise (R90, R91). -/
def turretAtRest (s : State) : State :=
  if s.act.state = .retracted then
    if s.pins.topLimit then startHeld s else dropRetract s
  else s

/-! ## Rounds (R81 to R87) -/

/-- The length of a slot in µs (R81). -/
def slotPeriodUs (r : RoundCfg) : Nat := 10 * r.prescale * r.period

/-- The length of a round in µs (R81). -/
def roundDurationUs (r : RoundCfg) : Nat := (r.n + 3) * slotPeriodUs r

/-- The raw force mean of a round's codes (R83). -/
def rawMean (codes : List Word16) : Int := roundHalfUp ((codes.map BitVec.toInt).sum) codes.length

/-- A round with the number of force samples it runs with (log entry 31). -/
def Acquisition.fits (q : Acquisition) (codes : List Word16) : Bool := codes.length = q.round.n && codes.length ≠ 0

/-- The readings take their new values together (R83, R85, R86). -/
def publishRound (codes : List Word16) (depth : Word16) (s : State) : State :=
  { s with acq :=
    { s.acq with
      rawForce := rawMean codes
      rawDepth := depth.toInt
      saturated := depth.toInt = -32768 || depth.toInt = 32767
      force := forceReading s.cal.curve (rawMean codes)
      depth := depthReading s.cal.depthZero s.cal.depthScale depth.toInt
      rounds := s.acq.rounds + 1 } }

/-- The next round starts: with the settings as they stand (R82), and with the reference switched in when a reference
round was asked for (R87). -/
def nextRound (s : State) : State :=
  { s with acq := { s.acq with round := s.settings.round, refSwitched := s.acq.refRequested, refRequested := false } }

/-- A normal round ends (R86). -/
def roundEnd (codes : List Word16) (depth : Word16) (s : State) : State :=
  if !s.acq.refSwitched && s.acq.fits codes then nextRound (readingEvent (publishRound codes depth s)) else s

end Sys2Proof.Machine
end

