-- ==== Sys2Proof/Machine/Flow.lean ====
section
/-! DEFINITION. The cycle controller's way through its states: entering INDENTING, CAPTURING and MEASURING (R46, R50, R52),
the completions of stage and turret (R45, R49, R56), the reports of the capture and the measurement engine (R50 to R54),
and a STOP in every state (R60). -/

namespace Sys2Proof.Machine

/-! ## Measuring (R52, R53) -/

/-- A report of the measurement engine: the values of a success become known and go to the hardness unit, EDGE_CLIPPED goes
to the fallback decision, any other failure ends the point; a failure's detail and axis change nothing more (R38, R52,
R53). -/
def cycleMeasured (r : Option MeasReport) (s : State) : State :=
  match r with
  | none => s
  | some (.success m) =>
    match s.cycleJob with
    | some (g, j) => hardnessRecord g j m.values (onKnown (fun k => { k with measured := some m.values }) s)
    | none => s
  | some (.failed st _ _) => if st = .edgeClipped then decideFallback s else failPoint st s

/-- MEASURING is entered with the image just captured (R52, R120). -/
def enterMeasuring (id : Word16) (hEff : Nat) (s : State) : State :=
  match s.cycleJob, s.cycle.objective with
  | some (_, j), some n =>
    let s1 := onCycle (fun c => { c with state := .measuring }) s
    let out := requestMeasure (measRequestOf id hEff j.params.threshold n s1) s1
    cycleMeasured out.2 out.1
  | _, _ => s

/-! ## Capturing (R50, R51) -/

/-- A report of the capture engine (R50, R51). -/
def cycleCaptured (r : Option CapReport) (s : State) : State :=
  match r with
  | none => s
  | some .restart => onCycle (fun c => { c with retryUsed := true }) s
  | some (.complete id hEff reduced) =>
    enterMeasuring id hEff
      (onKnown (fun k => { k with imageId := some id, hEff := some hEff, roiReduced := some reduced }) s)
  | some (.tooSmall _ reduced) => decideFallback (onKnown (fun k => { k with roiReduced := some reduced }) s)
  | some (.failed st) => if st = .cameraTimeout then failEquipment st s else failPoint st s

/-- CAPTURING is entered and one capture is asked (R50). -/
def enterCapturing (s : State) : State :=
  match s.cycleJob, s.cycle.objective with
  | some (_, j), some n =>
    let out := requestCapture n j.params.roi j.params.illum (onCycle (fun c => { c with state := .capturing }) s)
    cycleCaptured out.2 out.1
  | _, _ => s

/-! ## Indenting (R46) -/

/-- The indent request of a job: its own numbers and the indenter's contact threshold and maximum force (R46). -/
def indentParamsOf (p : JobParams) (i : Indenter) : IndentParams :=
  { force := p.force, loadTime := p.loadTime, dwell := p.dwell, approach := p.approach, travel := p.travel
    threshold := i.threshold, maxForce := i.maxForce }

/-- INDENTING is entered: ACTUATOR is pending and an indent is asked (R46). -/
def enterIndenting (s : State) : State :=
  match s.cycleJob with
  | some (_, j) =>
    indentRequest (indentParamsOf j.params (s.indenterOf j.params.indenter))
      (onCycle (fun c => { c with state := .indenting, pendActuator := true }) s)
  | none => s

/-! ## Completions (R45, R49, R56) -/

/-- With the pending set empty, POSITIONING goes on to INDENTING and VIEWING to CAPTURING (R45, R49). -/
def advance (s : State) : State :=
  if s.cycle.pendStage || s.cycle.pendTurret then s
  else
    match s.cycle.state with
    | .positioning => enterIndenting s
    | .viewing => enterCapturing s
    | _ => s

/-- The stage completion (R41, R45, R49). -/
def cycleStageSettled (s : State) : State :=
  match s.cycle.state with
  | .positioning => advance (onCycle (fun c => { c with pendStage := false }) s)
  | .viewing => advance (onCycle (fun c => { c with pendStage := false }) s)
  | _ => s

/-- The stage failures STAGE_FAILED and STAGE_TIMEOUT (R45, R49). -/
def cycleStageFailed (st : Status) (s : State) : State :=
  match s.cycle.state with
  | .positioning => failPoint st s
  | .viewing => failPoint st s
  | _ => s

/-- The turret is PARKED at the station asked for (R45, R49, R56). -/
def cycleTurretParked (s : State) : State :=
  let s1 := onCycle (fun c => { c with pendTurret := false }) s
  match s.cycle.state with
  | .positioning => advance s1
  | .viewing => advance s1
  | .clearing => clearingDone s1
  | _ => s

/-! ## STOP (R60) -/

/-- A STOP in CLEARING: with a point still granted, an actuator not at rest and not yet asked to retract is asked now
(R60; log entry 28). -/
def stopClearing (s : State) : State :=
  if s.cycle.granted.isSome && !s.act.atRest && s.act.requester ≠ some (.cycle, .retract) then
    retractRequest .cycle (onCycle (fun c => { c with pendActuator := true }) s)
  else s

/-- A STOP in POSITIONING to MEASURING: ABORTED, CLEARING, and a retract request to an actuator that is not at rest
(R60). -/
def stopWork (s : State) : State :=
  let s1 := dropWork (onCycle (fun c => { c with outcome := some .aborted }) s)
  let wait := !s1.act.atRest
  let s2 := onCycle (fun c => { clearingCycle s1.turret s1.act c with pendActuator := wait }) s1
  if wait then retractRequest .cycle s2 else clearingDone s2

/-- A STOP taken while the head is BUSY reaches the cycle controller (R60). -/
def stopCycle (s : State) : State :=
  let s1 := onCycle (fun c => { c with haltOnEnd := true }) s
  match s.cycle.state with
  | .idle => s
  | .clearing => stopClearing s1
  | _ => stopWork s1

end Sys2Proof.Machine
end

