-- ==== Sys2Proof/Machine/SelfTest.lean ====
section
/-! DEFINITION. The self-test unit (R182 to R186): its items, their ends, failure and abandon. -/

namespace Sys2Proof.Machine

/-- The group and the item number of an item (R182). -/
def itemNumber : TestItem → Nat × Nat
  | .pattern => (1, 1)
  | .address => (1, 2)
  | .force => (2, 1)
  | .depth => (2, 2)
  | .turret => (3, 1)

/-- A sub-reason's number (R193). -/
def subReasonCode : SubReason → Nat
  | .markMismatch => 1 | .rotationTimeout => 2 | .interlock => 3 | .notHomed => 4
  | .inMotion => 5 | .noMark => 6 | .markUnknown => 7 | .homeTimeout => 8

/-- A self-test error code (R193). -/
def testErrorCode : TestError → Nat
  | .sub r => subReasonCode r
  | .patternMismatch => 9
  | .addressAlias => 10
  | .referenceRange => 11

/-- Group and item as two bytes. -/
def itemBytes (i : TestItem) : List Byte := u8 (itemNumber i).1 ++ u8 (itemNumber i).2

/-- The payload of a SELFTEST answer (R182, R186). `n` is the number of items run. -/
def testPayload (n : Nat) : TestResult → List Byte
  | .passed => u8 0 ++ u8 n
  | .failed item code location expected read =>
    u8 1 ++ itemBytes item ++ u8 (testErrorCode code) ++ u32 location.toNat ++ i32 expected ++ i32 read
  | .abandoned item => u8 2 ++ itemBytes item

/-! ## The end of a test -/

/-- The test ends with a result: the unit is idle, the last result kept (R182). -/
def closeTest (r : TestResult) (s : State) : State :=
  { s with selftest := { run := none, last := some r }, arb := { s.arb with testFault := false } }

/-- Every item has passed: the head becomes IDLE, or HALTED after a fault recorded during the test, and the command is
answered (R36, R182). -/
def testPassed (r : TestRun) (s : State) : State :=
  let s1 := closeTest .passed s
  answer r.port (.ok (testPayload r.done .passed)) (if s.arb.testFault then haltHead s1 else idleHead s1)

/-- The running item fails: FAILED, SELFTEST_FAIL recorded, the head HALTED, the command answered (R186). -/
def testFailed (r : TestRun) (code : TestError) (location : Word32) (expected read : Int) (s : State) : State :=
  let res := TestResult.failed r.item code location expected read
  answer r.port (.ok (testPayload r.done res))
    (haltHead (closeTest res (recordFault .selftestFail none s)))

/-! ## Items -/

/-- The next station clockwise (R185). -/
def nextStation (n : Station) : Station := n + 1

/-- The station the turret item asks for next; a turret that is not PARKED refuses whatever is asked (log entry 23). -/
def Turret.nextTarget (t : Turret) : Station :=
  match t.state with
  | .parked m => nextStation m
  | _ => 0

/-- A turret failure fails the item: error code the sub-reason, location the target, expected its width, read the gated
count (R185). The spec names no count for a rotation that times out in TRAVEL or is refused: the model reads the gated
count as it stands, 0 in TRAVEL and the last motion's after a refusal (log entry 34). -/
def testTurretFailed (r : TestRun) (sub : SubReason) (target : Station) (s : State) : State :=
  testFailed r (.sub sub) (BitVec.ofNat 32 target.val) (markWidth target) s.turret.gated s

/-- The turret item asks for the next station (R185). -/
def testRotate (r : TestRun) (s : State) : State :=
  let target := s.turret.nextTarget
  let s1 := rotationRequest .selftest target s
  match rotationAnswer s.turret.state target s.act.state with
  | .refused sub => testTurretFailed r sub target s1
  | _ => s1

/-- LAST loses its image id and h_eff (R117). -/
def dropLast (s : State) : State := { s with frames := { s.frames with lastId := none, lastHEff := none } }

/-- An item starts (R183 to R185). -/
def startItem (r : TestRun) (s : State) : State :=
  let s1 := { s with selftest := { s.selftest with run := some r } }
  match r.item with
  | .pattern => dropLast s1
  | .address => dropLast s1
  | .force => { s1 with acq := { s1.acq with refRequested := true } }
  | .depth => { s1 with acq := { s1.acq with refRequested := true } }
  | .turret => testRotate r s1

/-- The running item has passed: the next one starts, or the test has passed (R182). -/
def itemPassed (r : TestRun) (s : State) : State :=
  match r.todo with
  | next :: rest => startItem { r with item := next, todo := rest, done := r.done + 1, visits := 6 } s
  | [] => testPassed { r with done := r.done + 1 } s

/-- The turret reports PARKED to the self-test unit: after the sixth rotation the item has passed (R185). -/
def testTurretParked (s : State) : State :=
  match s.selftest.run with
  | some r =>
    if r.visits ≤ 1 then itemPassed r s
    else
      let r1 := { r with visits := r.visits - 1 }
      testRotate r1 { s with selftest := { s.selftest with run := some r1 } }
  | none => s

/-! ## Frame-store items (R183) -/

/-- The four fills of the pattern item (R183). -/
def patternFill (k : Fin 4) : Byte :=
  match k.val with
  | 0 => 85 | 1 => 170 | 2 => 0 | _ => 255

/-- The value the address item writes into a byte (R183). -/
def addressValue (b r c : Nat) : Byte := BitVec.ofNat 8 (c + 7 * r + 131 * b)

/-- The address item's value at an address of the frame store. -/
def addressValueAt (a : Nat) : Byte :=
  addressValue (a / Config.bufferBytes) (a % Config.bufferBytes / Config.frameSide) (a % Config.frameSide)

/-- Both buffers filled from a function of the address. -/
def fillFrames (f : Nat → Byte) : Memory := Memory.cellsFrom 0 ((List.range (2 * Config.bufferBytes)).map f)

/-- The bytes of both buffers replaced. -/
def setFrames (m : Memory) (s : State) : State := { s with frames := { s.frames with mem := m } }

/-- The address of a failing byte. -/
def badAddr (b : BadByte) : Nat := frameAddr b.buffer.val b.row.val b.col.val

/-- What an item had written into a failing byte. -/
def badExpected (b : BadByte) (item : TestItem) : Byte :=
  match item with
  | .address => addressValue b.buffer.val b.row.val b.col.val
  | _ => patternFill b.fill

/-- The buffers after a pass of an item (R183). -/
def framesPassed (item : TestItem) : Memory :=
  match item with
  | .pattern => fillFrames fun _ => 255
  | _ => []

/-- The buffers after a failure: what the failing step wrote, and in the failing byte what it read (log entry 16). -/
def framesFailed (item : TestItem) (b : BadByte) : Memory :=
  let written := match item with
    | .address => fillFrames addressValueAt
    | _ => fillFrames fun _ => patternFill b.fill
  Memory.write written (badAddr b) [b.read]

/-- A frame-store item ends, with every byte read back as written or with the first that was not (R183). -/
def frameItemEnd (bad : Option BadByte) (r : TestRun) (s : State) : State :=
  match bad.filter fun b => b.read ≠ badExpected b r.item with
  | none => itemPassed r (setFrames (framesPassed r.item) s)
  | some b =>
    testFailed r (if r.item = .address then .addressAlias else .patternMismatch)
      (Config.locationWord b.buffer.val b.row.val b.col.val) ((badExpected b r.item).toNat : Int) b.read.toNat
      (setFrames (framesFailed r.item b) s)

/-- The values a byte may hold after an abandoned frame-store item (R183). -/
def residueValues (item : TestItem) (old : Byte) (a : Nat) : List Byte :=
  match item with
  | .address => [old, addressValueAt a, 0]
  | _ => [old, 85, 170, 0, 255]

/-- One of the possible values, by a free value (R186, log entry 15). -/
def residueByte (item : TestItem) (n : Nat) (old : Byte) (a : Nat) : Byte :=
  let vs := residueValues item old a
  vs.getD (Config.residueChoice n a % vs.length) old

/-- The buffers as an abandoned frame-store item leaves them (R186). -/
def abandonFrames (item : TestItem) (s : State) : State :=
  { setFrames (fillFrames fun a => residueByte item s.freeCount (Memory.read s.frames.mem a) a) s with
    freeCount := s.freeCount + 1 }

/-! ## Acquisition items (R184) -/

/-- The code an acquisition item expects (R184). -/
def referenceCode (item : TestItem) : Int := if item = .force then 16384 else -16384

/-- A reference round's code passes: within 256 of the expected one (R184). -/
def referenceOk (item : TestItem) (code : Int) : Bool := (code - referenceCode item).natAbs ≤ 256

/-- A reference round is handed over and judged (R184). -/
def judgeReference (mean depth : Int) (s : State) : State :=
  match s.selftest.run with
  | some r =>
    if r.item = .force ∨ r.item = .depth then
      let code := if r.item = .force then mean else depth
      if referenceOk r.item code then itemPassed r s
      else testFailed r .referenceRange 0 (referenceCode r.item) code s
    else s
  | none => s

/-- A reference round ends (R87): handed over, nothing published, a normal round follows. -/
def referenceRoundEnd (codes : List Word16) (depth : Word16) (s : State) : State :=
  if s.acq.refSwitched && s.acq.fits codes then judgeReference (rawMean codes) depth.toInt (nextRound s) else s

/-! ## Abandon (R78, R87, R186) -/

/-- A turret motion is abandoned: UNKNOWN, and the actuator is told that the motion ended (R78, R90). -/
def abandonMotion (s : State) : State :=
  if s.turret.moving then turretAtRest (setTurret .unknown s.turret.lastSub s) else s

/-- A reference round asked for is cancelled, one under way is abandoned and a normal round starts (R87). -/
def abandonReference (s : State) : State :=
  if s.acq.refSwitched then
    { s with acq := { s.acq with refSwitched := false, refRequested := false, round := s.settings.round } }
  else { s with acq := { s.acq with refRequested := false } }

/-- The item running stops where it stands (R186). -/
def abandonItem (item : TestItem) (s : State) : State :=
  match item with
  | .pattern => abandonFrames .pattern s
  | .address => abandonFrames .address s
  | .force => abandonReference s
  | .depth => abandonReference s
  | .turret => abandonMotion s

/-- The running test is abandoned by a STOP: ABANDONED, the head HALTED, the command answered (R32, R186). -/
def abandonTest (s : State) : State :=
  match s.selftest.run with
  | some r =>
    answer r.port (.ok (testPayload r.done (.abandoned r.item)))
      (haltHead (closeTest (.abandoned r.item) (abandonItem r.item s)))
  | none => haltHead s

end Sys2Proof.Machine
end

