-- ==== Sys2Proof/Machine/Head.lean ====
section
/-! DEFINITION. The head arbiter: decisions and grants (R22 to R30), STOP (R32), resume and recovery (R34, R35), and the
commands HEAD_STOP, HEAD_RESUME, ARB_SET_LAST, SELFTEST. -/

namespace Sys2Proof.Machine

/-! ## Choosing (R25) -/

/-- The priority of a job slot; 8 for a free one. -/
def State.priority (s : State) (i : Slot) : Nat :=
  match (s.slot i).job with
  | some j => j.params.priority
  | none => 8

/-- The eligible jobs (R22). -/
def State.eligibleSlots (s : State) : List Slot := allSlots.filter s.eligible

/-- The eligible jobs of the best priority (R25 step 1). -/
def State.bestSlots (s : State) : List Slot :=
  s.eligibleSlots.filter fun i => s.eligibleSlots.all fun k => s.priority i ≤ s.priority k

/-- The burst holder may go on: fewer grants than its burst value (R25 step 2). -/
def State.burstLeft (s : State) (i : Slot) : Bool :=
  match (s.slot i).job with
  | some j => s.arb.holder = some (s.handle i) && s.arb.burst < j.params.burst
  | none => false

/-- The port that owns the job in a slot. -/
def State.owner? (s : State) (i : Slot) : Option Port := ((s.slot i).job).map Job.owner

/-- The open sequence of the job in a slot. -/
def State.openSeqOf (s : State) (i : Slot) : Nat :=
  match (s.slot i).job with
  | some j => j.openSeq.toNat
  | none => 0

/-- The port order of a new grant (R25 step 3). -/
def State.portOrder (s : State) : List Port := if s.settings.rotationOn then s.arb.rotation else allPorts

/-- Of some slots, the one with the smallest open sequence (R25 step 4), of equal ones the lower slot (log entry 41). -/
def State.oldest (s : State) : List Slot → Option Slot
  | [] => none
  | i :: is =>
    match State.oldest s is with
    | none => some i
    | some k => if s.openSeqOf k < s.openSeqOf i then some k else some i

/-- The job of a decision, and whether it is a burst grant (R25). -/
def State.choose (s : State) : Option (Slot × Bool) :=
  match s.bestSlots.find? s.burstLeft with
  | some i => some (i, true)
  | none =>
    match s.portOrder.find? fun p => s.bestSlots.any fun i => s.owner? i = some p with
    | some p => (s.oldest (s.bestSlots.filter fun i => s.owner? i = some p)).map fun i => (i, false)
    | none => none

/-! ## Granting (R26 to R30) -/

/-- A port moved to the end of the rotation list (R27, R28). -/
def moveLast (p : Port) (l : List Port) : List Port := l.filter (· ≠ p) ++ [p]

/-- The oldest PENDING point of a job becomes GRANTED (R29). -/
def markGranted (i : Slot) : List Point → List Point
  | [] => []
  | p :: ps =>
    if p.slot = i && p.state = .pending then { p with state := .granted } :: ps else p :: markGranted i ps

/-- The arbiter's own changes at a grant (R26, R27, R29). -/
def grantArb (h : Handle) (owner : Port) (burst rotationOn : Bool) (a : Arbiter) : Arbiter :=
  { a with
    head := .busy, wait := .none, holder := some h
    burst := if burst then a.burst + 1 else 1
    rotation := if !burst && rotationOn then moveLast owner a.rotation else a.rotation }

/-- The station check (R30). -/
def stationCheck (p : JobParams) (indenter objective : StationRec) : Bool :=
  match indenter, objective with
  | .indenter i, .objective _ => i.minForce ≤ p.force && p.force ≤ i.maxForce
  | _, _ => false

/-- A failed station check (R30): the granted point and every PENDING one is skipped, the reservation released, the job
ended CONFIG_CHANGED, the head IDLE. -/
def configChanged (i : Slot) (s : State) : State :=
  let s1 := (releaseSlot (dropGranted i s)).updateJob i fun j => { j with skipped := j.skipped + 1 }
  idleHead (endJob i .configChanged (skipPending i s1))

/-- The granted point as the cycle controller takes it (R39). -/
def grantedCopy (s : State) (p : Point) : Granted :=
  { handle := s.handle p.slot, slot := p.slot, index := p.index, tag := p.tag, x := p.x, y := p.y }

/-- A grant to a job (R29). -/
def grant (i : Slot) (j : Job) (burst : Bool) (s : State) : State :=
  let s1 := reserveSlot { s with
    points := markGranted i s.points
    arb := grantArb (s.handle i) j.owner burst s.settings.rotationOn s.arb }
  match s1.grantedOf i with
  | some p =>
    if stationCheck j.params (s1.station j.params.indenter) (s1.station j.params.objective) then
      enterPositioning (grantedCopy s1 p) j.params s1
    else configChanged i s1
  | none => s

/-- One decision (R24, R25). -/
def makeDecision (s : State) : State :=
  if s.eligibleSlots.isEmpty then { s with arb := { s.arb with wait := .noWork } }
  else if s.results.free = 0 then { s with arb := { s.arb with wait := .waitResults } }
  else
    match s.choose with
    | some (i, burst) =>
      match (s.slot i).job with
      | some j => grant i j burst s
      | none => s
    | none => s

/-- The decision event is spent. -/
def clearDue (s : State) : State := { s with arb := { s.arb with due := false } }

/-- Decisions as long as a decision event stands with the head IDLE: a grant makes the head BUSY, and a job that fails
the station check ends and makes another decision (R23, R30). -/
def settleFor : Nat → State → State
  | 0, s => clearDue s
  | n + 1, s =>
    if s.arb.due && s.arb.head = .idle then settleFor n (makeDecision (clearDue s)) else clearDue s

/-- The decisions of one event: at most sixteen jobs can fail the check, and one more decision follows. -/
def settle (s : State) : State := settleFor 17 s

/-! ## STOP (R32) -/

/-- A STOP is taken (R32). -/
def takeStop (s : State) : State :=
  let s1 := recordFault .stop none s
  match s.arb.head with
  | .idle => haltHead s1
  | .busy => stopCycle s1
  | .unready => haltHead (abandonMotion s1)
  | .recovering => haltHead (abandonMotion s1)
  | .selftest => abandonTest s1
  | .halted => s1

/-- The number of a head state (R193). -/
def headCode : HeadState → Nat
  | .unready => 0 | .idle => 1 | .busy => 2 | .selftest => 3 | .halted => 4 | .recovering => 5

/-- HEAD_STOP: the answer is the head state before the STOP (R32). -/
def headStopBody (_ : List Byte) (s : State) : State × Reply := (takeStop s, .ok (u8 (headCode s.arb.head)))

/-- HEAD_STOP (R32). -/
def execHeadStop (p : Port) (s : State) : Host.Outcome State Fault Refusal :=
  .next (settle (runCommand 0x0501 p headStopBody s))

/-- STOP_LINE_ASSERT (R32): the line becomes asserted, which is a STOP; a line already asserted has no further edge. -/
def execStopLineAssert (s : State) : Host.Outcome State Fault Refusal :=
  .next (if s.pins.stopLine then s else settle (takeStop { s with pins := { s.pins with stopLine := true } }))

/-- STOP_LINE_RELEASE (R32): the line's level alone changes. -/
def execStopLineRelease (s : State) : Host.Outcome State Fault Refusal :=
  .next { s with pins := { s.pins with stopLine := false } }

/-! ## Resume and recovery (R34, R35) -/

/-- Recovery begins: the head is RECOVERING and the actuator is asked to retract (R34, R35). -/
def beginRecovery (s : State) : State := retractRequest .arbiter { s with arb := { s.arb with head := .recovering } }

/-- HEAD_RESUME (R34); the answer is the new head state, RECOVERING (log entry 32). -/
def headResumeBody (_ : List Byte) (s : State) : State × Reply :=
  if s.arb.head ≠ .halted then (s, refuse .wrongState)
  else if s.pins.stopLine then (s, refuse .stopActive)
  else (beginRecovery s, .ok (u8 (headCode .recovering)))

/-- HEAD_RESUME (R34). -/
def execHeadResume (p : Port) (s : State) : Host.Outcome State Fault Refusal :=
  .next (settle (runCommand 0x0502 p headResumeBody s))

/-- Homing has succeeded: start-up and recovery end with the head IDLE, a recovery with the faults cleared (R21, R35). -/
def arbiterHomed (s : State) : State :=
  match s.arb.head with
  | .unready => idleHead s
  | .recovering => idleHead { s with arb := { s.arb with first := none, last := none } }
  | _ => s

/-! ## ARB_SET_LAST (R28) -/

/-- The rotation list as three port bytes, with no count before them (R28, R199; log entry 37). -/
def rotationBytes (l : List Port) : List Byte := l.flatMap fun p => u8 (portNum p)

/-- ARB_SET_LAST: the port 0 moves to the end of the list (R28). -/
def arbSetLastBody (blk : List Byte) (s : State) : State × Reply :=
  match portAt blk 0 with
  | none => (s, refuse .badParam)
  | some q =>
    let l := moveLast q s.arb.rotation
    ({ s with arb := { s.arb with rotation := l } }, .ok (rotationBytes l))

/-- ARB_SET_LAST (R28). -/
def execArbSetLast (p : Port) (s : State) : Host.Outcome State Fault Refusal :=
  .next (runCommand 0x0503 p arbSetLastBody s)

/-! ## SELFTEST (R36, R182) -/

/-- The head becomes SELFTEST and the first item starts (R36, R182). -/
def beginTest (p : Port) (items : List TestItem) (s : State) : State :=
  let s1 := { s with arb := { s.arb with head := .selftest, wait := .none, testFault := false } }
  match items with
  | [] => s
  | i :: rest => startItem { port := p, item := i, todo := rest, done := 0, visits := 6 } s1

/-- SELFTEST: refused, or begun with the mailbox left WORKING until the test ends (R182, R190). -/
def selftestCommand (p : Port) (s : State) : State :=
  let s1 := takeCommand p s
  match selftestParams (s.mailbox p).block with
  | none => answer p (refuse .badParam) s1
  | some items => if s.arb.head = .idle then beginTest p items s1 else answer p (refuse .busy) s1

/-- SELFTEST (R182). -/
def execSelftest (p : Port) (s : State) : Host.Outcome State Fault Refusal :=
  .next (if s.posted p 0x0504 then settle (selftestCommand p s) else s)

end Sys2Proof.Machine
end

