-- ==== Sys2Proof/Machine/Jobs.lean ====
section
/-! DEFINITION. The job commands (R6 to R17, R31, R62). Each reads its parameters, checks its command in R6's order, and
answers within its take, after the decisions it causes (R190). -/

namespace Sys2Proof.Machine

/-- The effect of a command that names a job: NO_SUCH_JOB for a handle that names none, then `act` (R1, R6). -/
def withJob (h : Handle) (act : Slot → Job → State → State × Reply) (s : State) : State × Reply :=
  match s.findJob h with
  | none => (s, refuse .noSuchJob)
  | some (i, j) => act i j s

/-- The same for the owner's port alone: any other port is refused NOT_OWNER (R6). -/
def withOwnJob (p : Port) (h : Handle) (act : Slot → Job → State → State × Reply) (s : State) : State × Reply :=
  withJob h (fun i j s => if j.owner = p then act i j s else (s, refuse .notOwner)) s

/-- The same for a job that is not CANCELLING: otherwise WRONG_STATE (R3, R6). -/
def withLiveJob (p : Port) (h : Handle) (act : Slot → Job → State → State × Reply) (s : State) : State × Reply :=
  withOwnJob p h (fun i j s => if j.cancelling then (s, refuse .wrongState) else act i j s) s

/-! ## JOB_OPEN (R7 to R9) -/

/-- The lowest-numbered free job slot (R9). -/
def State.freeSlot (s : State) : Option Slot := allSlots.find? fun i => (s.slot i).job.isNone

/-- The entry of a new job (R9). -/
def newJob (p : Port) (q : JobParams) (seq : Word32) : Job := { params := q, owner := p, openSeq := seq }

/-- A job opened in a slot: its JOB_END reservation, its entry, its accumulation cleared, the counter advanced (R1, R9,
R179). -/
def openJob (p : Port) (q : JobParams) (i : Slot) (s : State) : State :=
  let s1 := reserveSlot s
  let s2 := s1.setSlot i { s1.slot i with job := some (newJob p q s.openOrder), acc := {} }
  { s2 with openOrder := s.openOrder + 1 }

/-- JOB_OPEN: ranges, calibration, stations, job slot, result slot (R7 to R9). -/
def jobOpenBody (p : Port) (blk : List Byte) (s : State) : State × Reply :=
  match jobOpenParams blk with
  | none => (s, refuse .badParam)
  | some q =>
    if s.uncalibrated then (s, refuse .notCalibrated)
    else if !stationCheck q (s.station q.indenter) (s.station q.objective) then (s, refuse .badParam)
    else
      match s.freeSlot with
      | none => (s, refuse .tableFull)
      | some i =>
        if s.results.free = 0 then (s, refuse .resultsFull)
        else (openJob p q i s, .ok (u8 (s.handle i).toNat ++ u32 s.openOrder.toNat))

/-- JOB_OPEN (R7 to R9). -/
def execJobOpen (p : Port) (s : State) : Host.Outcome State Fault Refusal :=
  .next (runCommand 0x0101 p (jobOpenBody p) s)

/-! ## POINTS_ADD (R10, R11) -/

/-- The new points of a block, PENDING, with rising indices (R11). -/
def newPoints (i : Slot) : Nat → List (Int × Int × Nat) → List Point
  | _, [] => []
  | n, (x, y, tag) :: ps => { slot := i, index := n, tag := tag, x := x, y := y } :: newPoints i (n + 1) ps

/-- A job's entry after a block of `n` points (R11). -/
def afterBlock (n : Nat) (more : Bool) (j : Job) : Job :=
  { j with added := j.added + n, nextIndex := j.nextIndex + n, list := if more then j.list else .closed }

/-- The points joined to the store and the entry updated (R11). -/
def addPoints (i : Slot) (j : Job) (more : Bool) (pts : List (Int × Int × Nat)) (s : State) : State :=
  State.setJob { s with points := s.points ++ newPoints i j.nextIndex pts } i (afterBlock pts.length more j)

/-- A decision event when a job that was not eligible has become so (R11, R23). -/
def noteEligible (i : Slot) (before : Bool) (s : State) : State := if !before && s.eligible i then noteDecision s else s

/-- A block taken: the points, the eligibility event, the finish test of a block that closes the list, the decisions
(R11, R18). -/
def takeBlock (i : Slot) (j : Job) (more : Bool) (pts : List (Int × Int × Nat)) (s : State) : State :=
  let s1 := noteEligible i (s.eligible i) (addPoints i j more pts s)
  settle (if more then s1 else finishTest i s1)

/-- The number of a list state (R193). -/
def listCode : ListState → Nat
  | .opened => 0
  | .closed => 1

/-- POINTS_ADD's payload (R11): first index, points added, free point slots, list state. The list state is the one the block
left, also when the job's own grant failed the station check in the command and the job has left the table (log entry
40). -/
def pointsAddPayload (j : Job) (more : Bool) (n free : Nat) : List Byte :=
  u16 j.nextIndex ++ u8 n ++ u16 free ++ u8 (listCode (afterBlock n more j).list)

/-- POINTS_ADD on a job of the caller's that is not CANCELLING (R10). -/
def pointsAddOn (more : Bool) (pts : List (Int × Int × Nat)) (i : Slot) (j : Job) (s : State) : State × Reply :=
  if j.list = .closed then (s, refuse .wrongState)
  else if 65535 < j.added + pts.length then (s, refuse .badParam)
  else if s.freePoints < pts.length then (s, .refused .pointsFull (u16 s.freePoints))
  else
    let s1 := takeBlock i j more pts s
    (s1, .ok (pointsAddPayload j more pts.length s1.freePoints))

/-- POINTS_ADD (R10). -/
def pointsAddBody (p : Port) (blk : List Byte) (s : State) : State × Reply :=
  match pointsAddParams blk with
  | none => (s, refuse .badParam)
  | some (more, pts) => withLiveJob p (handleAt blk) (pointsAddOn more pts) s

/-- POINTS_ADD (R10, R11). -/
def execPointsAdd (p : Port) (s : State) : Host.Outcome State Fault Refusal :=
  .next (runCommand 0x0102 p (pointsAddBody p) s)

/-! ## JOB_HOLD, JOB_UNHOLD, JOB_SET_PRIORITY (R13, R14) -/

/-- The burst of a job ends (R26). -/
def endBurst (h : Handle) (s : State) : State :=
  if s.arb.holder = some h then { s with arb := { s.arb with holder := none, burst := 0 } } else s

/-- JOB_HOLD's effect (R13). -/
def holdOn (i : Slot) (j : Job) (s : State) : State × Reply :=
  (endBurst (s.handle i) (s.setJob i { j with held := true }), .ok [])

/-- JOB_HOLD (R13). -/
def execJobHold (p : Port) (s : State) : Host.Outcome State Fault Refusal :=
  .next (runCommand 0x0103 p (fun blk => withLiveJob p (handleAt blk) holdOn) s)

/-- JOB_UNHOLD's effect (R13). -/
def unholdOn (i : Slot) (j : Job) (s : State) : State × Reply :=
  (settle (noteEligible i (s.eligible i) (s.setJob i { j with held := false })), .ok [])

/-- JOB_UNHOLD (R13). -/
def execJobUnhold (p : Port) (s : State) : Host.Outcome State Fault Refusal :=
  .next (runCommand 0x0104 p (fun blk => withLiveJob p (handleAt blk) unholdOn) s)

/-- JOB_SET_PRIORITY's effect (R14). -/
def setPriorityOn (v : Nat) (i : Slot) (j : Job) (s : State) : State × Reply :=
  (s.setJob i { j with params := { j.params with priority := v } }, .ok (u8 j.params.priority ++ u8 v))

/-- JOB_SET_PRIORITY (R14). -/
def setPriorityBody (p : Port) (blk : List Byte) (s : State) : State × Reply :=
  match priorityParam blk with
  | none => (s, refuse .badParam)
  | some v => withLiveJob p (handleAt blk) (setPriorityOn v) s

/-- JOB_SET_PRIORITY (R14). -/
def execJobSetPriority (p : Port) (s : State) : Host.Outcome State Fault Refusal :=
  .next (runCommand 0x0106 p (setPriorityBody p) s)

/-! ## JOB_CANCEL (R15, R16, R31, R62) -/

/-- The outcomes of JOB_CANCEL in the order the rules list them (R15, R16). -/
inductive CancelOutcome where
  | finishedNow | voided | draining
deriving DecidableEq, Repr

/-- The number of a cancel's outcome (R193). -/
def cancelCode : CancelOutcome → Nat
  | .finishedNow => 0 | .voided => 1 | .draining => 2

/-- What every cancel does first: the PENDING points skipped, the held flag cleared, the job CANCELLING (R15, R16). -/
def startCancel (i : Slot) (s : State) : State :=
  (skipPending i s).updateJob i fun j => { j with held := false, cancelling := true }

/-- The void of a grant (R31, R62): the order withdrawn, the point freed and counted as voided, its reservation released,
the job finished, and the cycle CLEARING without a point. -/
def voidGrant (i : Slot) (s : State) : State :=
  let s1 := withdrawOrder s
  let s2 := (dropGranted i s1).updateJob i fun j => { j with voided := j.voided + 1 }
  let s3 := finishTest i (releaseSlot s2)
  clearingDone (onCycle (fun c => { clearingCycle s3.turret s3.act c with granted := none }) s3)

/-- Which outcome a cancel has: nothing granted, a grant still in POSITIONING, or a point that must run on (R15, R16). -/
def cancelOutcome (s : State) (i : Slot) : CancelOutcome :=
  if (s.grantedOf i).isNone then .finishedNow
  else if s.cycle.state = .positioning then .voided
  else .draining

/-- JOB_CANCEL's effect (R15, R16). -/
def cancelOn (i : Slot) (_ : Job) (s : State) : State × Reply :=
  let skipped := (s.pendingOf i).length
  let out := cancelOutcome s i
  let s1 := startCancel i s
  let s2 := match out with
    | .finishedNow => finishTest i s1
    | .voided => voidGrant i s1
    | .draining => s1
  (settle s2, .ok (u16 skipped ++ u8 (cancelCode out)))

/-- JOB_CANCEL (R15, R16). -/
def execJobCancel (p : Port) (s : State) : Host.Outcome State Fault Refusal :=
  .next (runCommand 0x0105 p (fun blk => withLiveJob p (handleAt blk) cancelOn) s)

/-! ## JOB_QUERY (R17) -/

/-- The number of a job kind (R193). -/
def kindCode : JobKind → Nat
  | .measure => 0 | .offsetCal => 1 | .verify => 2

/-- The test parameters as stored, in the order of R2, without the kind and the owner. -/
def paramBytes (q : JobParams) : List Byte :=
  u8 q.priority ++ u8 q.burst ++ u16 q.specimen ++ u8 q.indenter.val ++ u8 q.objective.val ++ u32 q.force
    ++ u8 q.loadTime ++ u16 q.dwell ++ u16 q.approach ++ u16 q.travel ++ u16 q.roi
    ++ u8 (match q.illum with | .single => 0 | .paired => 1)
    ++ optBytes 1 u8 q.threshold ++ flagByte q.useFallback ++ flagByte q.convert
    ++ optBytes 4 u32 q.reference ++ optBytes 1 u8 q.tolerance

/-- JOB_QUERY's payload (R17). -/
def queryPayload (i : Slot) (j : Job) (s : State) : List Byte :=
  let g := s.grantedOf i
  u8 (kindCode j.params.kind) ++ u8 (portNum j.owner) ++ paramBytes j.params ++ u32 j.openSeq.toNat
    ++ u8 (listCode j.list) ++ flagByte j.cancelling ++ flagByte j.held ++ flagByte (s.starved i)
    ++ u16 j.added ++ u16 j.ok ++ u16 j.failed ++ u16 j.skipped ++ u16 j.voided
    ++ u16 (s.pendingOf i).length ++ u16 j.nextIndex
    ++ optBytes 2 u16 (g.map Point.index) ++ optBytes 2 u16 (g.map Point.tag)

/-- JOB_QUERY (R17). -/
def execJobQuery (p : Port) (s : State) : Host.Outcome State Fault Refusal :=
  .next (runCommand 0x0107 p
    (fun blk => withJob (handleAt blk) (fun i j s => (s, .ok (queryPayload i j s)))) s)

end Sys2Proof.Machine
end

