-- ==== Sys2Proof/Machine/Calibration.lean ====
section
/-! DEFINITION. The calibration, settings and verification commands (R171 to R177): the acceptance rule, the lapses and
restarts of each write, and the payloads of the reads. -/

namespace Sys2Proof.Machine

/-- Calibration and settings writes are refused BUSY while the head is BUSY, SELFTEST or RECOVERING (R20, R171). -/
def State.writesBusy (s : State) : Bool :=
  match s.arb.head with
  | .busy => true
  | .selftest => true
  | .recovering => true
  | _ => false

/-- A write command (R171): its parameters, then the head state, then its effect, answered with the number of entries it
lapsed. -/
def writeCommand {α : Type} (params : List Byte → Option α) (effect : α → State → State) (lapsed : α → State → Nat)
    (blk : List Byte) (s : State) : State × Reply :=
  match params blk with
  | none => (s, refuse .badParam)
  | some v => if s.writesBusy then (s, refuse .busy) else (effect v s, .ok (u8 (lapsed v s)))

/-- Every entry lapses and every open VERIFY job restarts (R174, R176, R179). -/
def lapseAll (s : State) : State := restartWhere (fun q => q.kind = .verify) (lapseWhere (fun _ => true) s)

/-! ## STATION_WRITE, STATION_READ (R173) -/

/-- A record is of kind INDENTER. -/
def StationRec.isIndenter : StationRec → Bool
  | .indenter _ => true
  | _ => false

/-- The pair (S, corr) of an objective; a station that is not OBJECTIVE has none (R173). -/
def StationRec.pair : StationRec → Option (Nat × Int)
  | .objective o => some (o.scale, o.corr)
  | _ => none

/-- The write covers the keys of station `n` (R173). -/
def coversStation (old new : StationRec) : Bool := old.isIndenter || new.isIndenter

/-- The write covers every key (R173). -/
def coversAll (old new : StationRec) : Bool := old.pair ≠ new.pair

/-- The entries a station write lapses (R173). -/
def stationCovers (n : Station) (old new : StationRec) (key : Station) : Bool :=
  coversAll old new || (coversStation old new && key = n)

/-- STATION_WRITE's effect (R173): the record, the lapses, the restarts. -/
def stationWrite (w : Station × StationRec) (s : State) : State :=
  let old := s.station w.1
  restartWhere (fun q => q.kind = .offsetCal && q.objective = w.1)
    (restartWhere (fun q => q.kind = .verify && stationCovers w.1 old w.2 q.indenter)
      (lapseWhere (fun e => stationCovers w.1 old w.2 e.station) (s.setStation w.1 w.2)))

/-- The entries it lapses. -/
def stationLapsed (w : Station × StationRec) (s : State) : Nat :=
  lapsedBy (fun e => stationCovers w.1 (s.station w.1) w.2 e.station) s

/-- STATION_WRITE (R173). -/
def execStationWrite (p : Port) (s : State) : Host.Outcome State Fault Refusal :=
  .next (runCommand 0x0401 p (writeCommand stationWriteParams stationWrite stationLapsed) s)

/-- The number of a profile (R193). -/
def profileCode : Profile → Nat
  | .sp => 0
  | .rb => 1

/-- The number of a station kind: EMPTY 0, INDENTER 1, OBJECTIVE 2. -/
def stationKind : StationRec → Nat
  | .empty => 0
  | .indenter _ => 1
  | .objective _ => 2

/-- The INDENTER fields of a station, each behind a presence byte (log entry 19). -/
def indenterBytes (i : Option Indenter) : List Byte :=
  optBytes 1 (fun x => u8 (profileCode x.profile)) i ++ optBytes 4 (fun x => u32 x.minForce) i
    ++ optBytes 4 (fun x => u32 x.maxForce) i ++ optBytes 4 (fun x => u32 x.threshold) i

/-- The OBJECTIVE fields of a station, each behind a presence byte (log entry 19). -/
def objectiveBytes (o : Option Objective) : List Byte :=
  optBytes 2 (fun x => u16 x.cx) o ++ optBytes 2 (fun x => u16 x.cy) o ++ optBytes 4 (fun x => u32 x.scale) o
    ++ optBytes 2 (fun x => i16 x.corr) o ++ optBytes 4 (fun x => i32 x.dx) o ++ optBytes 4 (fun x => i32 x.dy) o
    ++ optBytes 2 (fun x => u16 x.exposureUs) o ++ optBytes 1 (fun x => u8 x.gain) o
    ++ optBytes 1 (fun (n : Station) => u8 n.val) (o.bind Objective.fallback)

/-- STATION_READ's payload (R171, log entry 19). -/
def stationPayload (r : StationRec) : List Byte :=
  match r with
  | .empty => u8 (stationKind r) ++ indenterBytes none ++ objectiveBytes none
  | .indenter i => u8 (stationKind r) ++ indenterBytes (some i) ++ objectiveBytes none
  | .objective o => u8 (stationKind r) ++ indenterBytes none ++ objectiveBytes (some o)

/-- STATION_READ's answer: BAD_PARAM above station 5 (R171). -/
def stationReadBody (blk : List Byte) (s : State) : State × Reply :=
  match stationAt blk 0 with
  | none => (s, refuse .badParam)
  | some n => (s, .ok (stationPayload (s.station n)))

/-- STATION_READ (R171). -/
def execStationRead (p : Port) (s : State) : Host.Outcome State Fault Refusal :=
  .next (runCommand 0x0402 p stationReadBody s)

/-! ## Force curve and depth (R174) -/

/-- FORCE_CURVE_WRITE's effect: curve, depth zero and depth scale together, everything lapsed (R174). -/
def forceCurveWrite (w : List (Int × Int) × Int × Nat) (s : State) : State :=
  lapseAll { s with cal := { s.cal with curve := w.1, depthZero := w.2.1, depthScale := w.2.2 } }

/-- FORCE_CURVE_WRITE (R174). -/
def execForceCurveWrite (p : Port) (s : State) : Host.Outcome State Fault Refusal :=
  .next (runCommand 0x0403 p (writeCommand forceCurveParams forceCurveWrite fun _ s => lapsedBy (fun _ => true) s) s)

/-- FORCE_CURVE_READ's payload: count, points, depth zero, depth scale (R174). -/
def forceCurvePayload (c : Calibration) : List Byte :=
  u8 c.curve.length ++ c.curve.flatMap (fun pt => i16 pt.1 ++ i32 pt.2) ++ i16 c.depthZero ++ u16 c.depthScale

/-- FORCE_CURVE_READ (R174). -/
def execForceCurveRead (p : Port) (s : State) : Host.Outcome State Fault Refusal :=
  .next (runCommand 0x0404 p (fun _ s => (s, .ok (forceCurvePayload s.cal))) s)

/-! ## Conversion table (R175) -/

/-- CONVERSION_WRITE's effect: profile and points together, nothing lapsed (R175). -/
def conversionWrite (w : Profile × List (Int × Int)) (s : State) : State :=
  { s with cal := { s.cal with convProfile := w.1, convPoints := w.2 } }

/-- CONVERSION_WRITE (R175). -/
def execConversionWrite (p : Port) (s : State) : Host.Outcome State Fault Refusal :=
  .next (runCommand 0x0405 p (writeCommand conversionParams conversionWrite fun _ _ => 0) s)

/-- CONVERSION_READ's payload: profile, count, points (R175). -/
def conversionPayload (c : Calibration) : List Byte :=
  u8 (profileCode c.convProfile) ++ u8 c.convPoints.length ++ c.convPoints.flatMap (fun pt => i32 pt.1 ++ i32 pt.2)

/-- CONVERSION_READ (R175). -/
def execConversionRead (p : Port) (s : State) : Host.Outcome State Fault Refusal :=
  .next (runCommand 0x0406 p (fun _ s => (s, .ok (conversionPayload s.cal))) s)

/-! ## Verification table (R177) -/

/-- An entry's bytes: station, force, state, last mean, points-since, sequence (R177). -/
def verifEntryBytes (e : VerifEntry) : List Byte :=
  u8 e.station.val ++ u32 e.force ++ u8 (if e.verified then 0 else 1) ++ optBytes 4 u32 e.mean ++ u16 e.since
    ++ u32 e.seq.toNat

/-- VERIFY_TABLE_READ's payload: counter, interval, count, entries (R177, log entry 20). -/
def verifyTablePayload (v : VerifTable) (interval : Nat) : List Byte :=
  u32 v.counter.toNat ++ u16 interval ++ u8 v.entries.length ++ v.entries.flatMap verifEntryBytes

/-- VERIFY_TABLE_READ (R177). -/
def execVerifyTableRead (p : Port) (s : State) : Host.Outcome State Fault Refusal :=
  .next (runCommand 0x0407 p (fun _ s => (s, .ok (verifyTablePayload s.verif s.settings.interval))) s)

/-! ## Settings (R176) -/

/-- SETTINGS_WRITE's effect: every setting replaced; a change of K lapses everything (R176). -/
def settingsWrite (v : Settings) (s : State) : State :=
  let s1 := { s with settings := v }
  if v.edgeLevel = s.settings.edgeLevel then s1 else lapseAll s1

/-- The entries it lapses. -/
def settingsLapsed (v : Settings) (s : State) : Nat :=
  if v.edgeLevel = s.settings.edgeLevel then 0 else lapsedBy (fun _ => true) s

/-- SETTINGS_WRITE (R176). -/
def execSettingsWrite (p : Port) (s : State) : Host.Outcome State Fault Refusal :=
  .next (runCommand 0x0408 p (writeCommand settingsParams settingsWrite settingsLapsed) s)

/-- The number of a camera mode (R193). -/
def cameraCode : CameraMode → Nat
  | .bits8 => 0
  | .bits10 => 1

/-- SETTINGS_READ's payload: the whole set in the order of R176. -/
def settingsPayload (v : Settings) : List Byte :=
  u8 (portNum v.stagePort) ++ u8 (if v.rotationOn then 0 else 1) ++ u8 v.settleTimeout ++ u8 v.round.prescale
    ++ u16 v.round.period ++ u8 v.round.n ++ u8 (cameraCode v.camera) ++ u8 v.edgeLevel ++ u8 v.minContrast
    ++ u16 v.interval

/-- SETTINGS_READ (R176). -/
def execSettingsRead (p : Port) (s : State) : Host.Outcome State Fault Refusal :=
  .next (runCommand 0x0409 p (fun _ s => (s, .ok (settingsPayload s.settings))) s)

end Sys2Proof.Machine
end

