-- ==== Sys2Proof/Machine/Results.lean ====
section
/-! DEFINITION. The result commands (R158 to R162), the 64-byte record layout (R200), IMAGE_READ (R116), MAP_CLEAR (R168) and
the stage answers (R41). -/

namespace Sys2Proof.Machine

/-! ## The record layout (R200) -/

/-- The status codes (R200). -/
def statusCode : Status → Nat
  | .ok => 0 | .aborted => 1 | .stageFailed => 2 | .stageTimeout => 3 | .noContact => 4 | .loadTimeout => 5
  | .dwellUnstable => 6 | .imageCorrupt => 7 | .lowContrast => 8 | .noEdge => 9 | .edgeClipped => 10
  | .overload => 11 | .actuatorStall => 12 | .turretFault => 13 | .cameraTimeout => 14

/-- The number whose bit k is the k-th of some flags. -/
def bitsOf : List Bool → Nat
  | [] => 0
  | b :: bs => b.toNat + 2 * bitsOf bs

/-- The flag bits 0 to 10 (R200). -/
def flagBits (f : Flags) : Nat :=
  bitsOf [f.asymmetric, f.shape, f.overCap, f.underFloor, f.smallImage, f.roiReduced, f.fallback, f.retry, f.spacing,
    f.unverified, f.outOfTable]

/-- The presence bits of a POINT record (R200). -/
def pointPresence (b : PointBody) : Nat :=
  bitsOf [b.force.isSome, b.depth.isSome, b.diags.isSome, b.hardness.isSome, b.secondary.isSome, b.imageId.isSome]

/-- The presence bits of a JOB_END record, 8 to 11 (R200). -/
def jobEndPresence (b : JobEndBody) : Nat :=
  256 * bitsOf [b.mean.isSome, b.verdict.isSome, b.correction.isSome, b.offVerdict.isSome]

/-- The bytes 0x09 to 0x3F of a POINT record (R200). -/
def pointBytes (b : PointBody) : List Byte :=
  u8 b.objective.val ++ u16 (pointPresence b) ++ u16 (flagBits b.flags) ++ u16 b.index ++ u16 b.tag
    ++ i32 b.x ++ i32 b.y ++ i32 (b.force.getD 0) ++ u32 (b.dwellTime.getD 0) ++ i32 (b.depth.getD 0)
    ++ i32 (b.diags.getD (0, 0)).1 ++ i32 (b.diags.getD (0, 0)).2 ++ u32 (b.hardness.getD 0)
    ++ i32 (b.secondary.getD 0) ++ u16 ((b.imageId.getD 0).toNat)

/-- The number of a reason (R200). -/
def reasonByte : Reason → Nat
  | .finished => 0 | .cancelled => 1 | .configChanged => 2

/-- The verdict byte (R200): the verification or the offset verdict, 0 without one. -/
def verdictByte (b : JobEndBody) : Nat :=
  match b.verdict, b.offVerdict with
  | some .passed, _ => 0
  | some .failed, _ => 1
  | some .noValidPoints, _ => 2
  | none, some .applied => 0
  | none, some .rejectedRange => 1
  | none, some .noValidPoints => 2
  | none, none => 0

/-- The bytes 0x09 to 0x3F of a JOB_END record (R200). -/
def jobEndBytes (b : JobEndBody) : List Byte :=
  u8 0 ++ u16 (jobEndPresence b) ++ u16 0 ++ u8 (reasonByte b.reason) ++ u8 (verdictByte b) ++ u32 b.openSeq.toNat
    ++ u16 b.ok ++ u16 b.failed ++ u16 b.skipped ++ u16 b.voided ++ u16 0 ++ u16 0
    ++ u32 (b.mean.getD (0, 0)).1 ++ u32 (b.mean.getD (0, 0)).2
    ++ i32 (b.correction.getD (0, 0)).1 ++ i32 (b.correction.getD (0, 0)).2

/-- The number of a record kind and the bytes of its own fields. -/
def bodyBytes : RecordBody → Nat × List Byte
  | .point b => (0, pointBytes b)
  | .jobEnd b => (1, jobEndBytes b)

/-- A record as 64 bytes (R200). -/
def recordBytes (r : Record) : List Byte :=
  fitTo 64 (u16 r.id.toNat ++ u8 (bodyBytes r.body).1 ++ u8 (portNum r.port) ++ u8 r.handle.toNat
    ++ u8 (kindCode r.kind) ++ u16 r.specimen ++ u8 (statusCode r.status) ++ (bodyBytes r.body).2)

/-! ## RESULT_TAKE (R158) -/

/-- RESULT_TAKE's effect (R158). -/
def resultTakeBody (p : Port) (_ : List Byte) (s : State) : State × Reply :=
  match forPort s.results.untaken p with
  | [] => (s, refuse .noRecord)
  | r :: rs =>
    ({ s with results := { s.results with
        untaken := withPort s.results.untaken p rs
        taken := withPort s.results.taken p (forPort s.results.taken p ++ [r]) } },
      .ok (recordBytes r ++ u8 rs.length))

/-- RESULT_TAKE (R158). -/
def execResultTake (p : Port) (s : State) : Host.Outcome State Fault Refusal :=
  .next (runCommand 0x0201 p (resultTakeBody p) s)

/-! ## RESULT_FREE, RESULT_FREE_OLDEST (R159, R160, R162) -/

/-- An UNTAKEN record of any port with an id. -/
def ResultStore.untakenWith (r : ResultStore) (id : Word16) : Option Record :=
  (r.untaken.a ++ r.untaken.b ++ r.untaken.c).find? fun x => x.id = id

/-- A TAKEN record of any port with an id. -/
def ResultStore.takenWith (r : ResultStore) (id : Word16) : Option Record :=
  (r.taken.a ++ r.taken.b ++ r.taken.c).find? fun x => x.id = id

/-- A port's taken list becomes `rest`, its slot FREE: a decision event, decided before the answer (R23, R162). -/
def freeTaken (p : Port) (rest : List Record) (s : State) : State :=
  settle (noteDecision { s with results := { s.results with taken := withPort s.results.taken p rest } })

/-- The payload of a free (R159, R160): id, TAKEN records left, FREE slots after the command. -/
def freePayload (id : Word16) (left : Nat) (s : State) : List Byte := u16 id.toNat ++ u8 left ++ u8 s.results.free

/-- A TAKEN record of the caller's leaves its list (R159, R160). -/
def freeRecord (p : Port) (id : Word16) (s : State) : State × Reply :=
  let rest := (forPort s.results.taken p).filter fun x => x.id ≠ id
  let s1 := freeTaken p rest s
  (s1, .ok (freePayload id rest.length s1))

/-- RESULT_FREE: the record, its port, its state (R159). -/
def resultFreeBody (p : Port) (blk : List Byte) (s : State) : State × Reply :=
  let id := recordIdParam blk
  match s.results.takenWith id, s.results.untakenWith id with
  | some r, _ => if r.port = p then freeRecord p id s else (s, refuse .notOwner)
  | none, some r => (s, refuse (if r.port = p then .wrongState else .notOwner))
  | none, none => (s, refuse .noRecord)

/-- RESULT_FREE (R159). -/
def execResultFree (p : Port) (s : State) : Host.Outcome State Fault Refusal :=
  .next (runCommand 0x0202 p (resultFreeBody p) s)

/-- RESULT_FREE_OLDEST's effect (R160). -/
def freeOldestBody (p : Port) (_ : List Byte) (s : State) : State × Reply :=
  match forPort s.results.taken p with
  | [] => (s, refuse .noRecord)
  | r :: rs =>
    let s1 := freeTaken p rs s
    (s1, .ok (freePayload r.id rs.length s1))

/-- RESULT_FREE_OLDEST (R160). -/
def execResultFreeOldest (p : Port) (s : State) : Host.Outcome State Fault Refusal :=
  .next (runCommand 0x0203 p (freeOldestBody p) s)

/-! ## RESULT_READ (R161) -/

/-- RESULT_READ's answer: the record and its state, UNTAKEN 0 or TAKEN 1 (R161, R200). -/
def resultReadBody (blk : List Byte) (s : State) : State × Reply :=
  let id := recordIdParam blk
  match s.results.untakenWith id, s.results.takenWith id with
  | some r, _ => (s, .ok (recordBytes r ++ u8 0))
  | none, some r => (s, .ok (recordBytes r ++ u8 1))
  | none, none => (s, refuse .noRecord)

/-- RESULT_READ (R161). -/
def execResultRead (p : Port) (s : State) : Host.Outcome State Fault Refusal :=
  .next (runCommand 0x0204 p resultReadBody s)

/-! ## IMAGE_READ (R116) -/

/-- The bytes of LAST that an IMAGE_READ asks for (R116). -/
def imageBytes (f : FrameStore) (row col count : Nat) : List Byte :=
  Memory.slice f.mem (frameAddr f.last.val row col) count

/-- IMAGE_READ's answer, in R116's order of checks. -/
def imageReadBody (blk : List Byte) (s : State) : State × Reply :=
  match imageReadParams blk with
  | none => (s, refuse .badParam)
  | some (id, row, col, count) =>
    match s.frames.lastId, s.frames.lastHEff with
    | some held, some h =>
      if held ≠ id then (s, refuse .imageGone)
      else if 2 * h ≤ row ∨ 2 * h < col + count then (s, refuse .badParam)
      else (s, .ok (u16 id.toNat ++ u16 row ++ u16 col ++ u8 count ++ imageBytes s.frames row col count))
    | _, _ => (s, refuse .imageGone)

/-- IMAGE_READ (R116). -/
def execImageRead (p : Port) (s : State) : Host.Outcome State Fault Refusal :=
  .next (runCommand 0x0205 p imageReadBody s)

/-! ## MAP_CLEAR (R168) -/

/-- The entries a MAP_CLEAR keeps: those of other specimens for ONE, none for ALL (R168). -/
def mapKeep (scope : Option Nat) (map : List MapEntry) : List MapEntry :=
  match scope with
  | some id => map.filter fun e => e.specimen ≠ id
  | none => []

/-- MAP_CLEAR's effect (R168): removed and left are answered. -/
def mapClearBody (blk : List Byte) (s : State) : State × Reply :=
  match mapClearParams blk with
  | none => (s, refuse .badParam)
  | some scope =>
    let left := mapKeep scope s.map
    ({ s with map := left }, .ok (u8 (s.map.length - left.length) ++ u8 left.length))

/-- MAP_CLEAR (R168). -/
def execMapClear (p : Port) (s : State) : Host.Outcome State Fault Refusal :=
  .next (runCommand 0x0206 p mapClearBody s)

/-! ## STAGE_SETTLED, STAGE_FAILED (R41) -/

/-- A stage answer (R41): the stage port alone, the PENDING order's seq alone; accepted, the order ends with a status, the
cycle controller is told by `report`, and the decisions are made before the answer (R190). -/
def stageAnswer (status : OrderStatus) (report : State → State) (p : Port) (blk : List Byte) (s : State) :
    State × Reply :=
  if s.settings.stagePort ≠ p then (s, refuse .notStagePort)
  else
    match s.pendingOrder with
    | none => (s, .refused .staleOrder (stalePayload s))
    | some o =>
      if o.seq ≠ seqParam blk then (s, .refused .staleOrder (stalePayload s))
      else (settle (report (endOrder status s)), .ok [])

/-- STAGE_SETTLED (R41). -/
def execStageSettled (p : Port) (s : State) : Host.Outcome State Fault Refusal :=
  .next (runCommand 0x0301 p (stageAnswer .settled cycleStageSettled p) s)

/-- STAGE_FAILED (R41). -/
def execStageFailed (p : Port) (s : State) : Host.Outcome State Fault Refusal :=
  .next (runCommand 0x0302 p (stageAnswer .failed (cycleStageFailed .stageFailed) p) s)

/-- SETTLE_TIMER_EXPIRY (R42): the PENDING order is EXPIRED and STAGE_TIMEOUT is reported. -/
def execSettleTimerExpiry (s : State) : Host.Outcome State Fault Refusal :=
  .next (if s.pendingOrder.isSome ∧ s.stage.settleTimer then
    settle (cycleStageFailed .stageTimeout (endOrder .expired s)) else s)

end Sys2Proof.Machine
end

