-- ==== Sys2Proof/Machine/TurretEvents.lean ====
section
/-! DEFINITION. The turret's events: steps, the ends of travel, stroke and placement, NO_MARK and the two timers (R67, R70 to
R77), with the reports they make to the cycle controller, the self-test unit and the arbiter. The actuator is told that a
motion has ended before the requester is (R90, log entry 27). -/

namespace Sys2Proof.Machine

/-! ## Reports -/

/-- The turret is PARKED at the station a rotation asked for: the requester is told (R71). -/
def rotationParked (req : TurretReq) (s : State) : State :=
  match req with
  | .cycle => cycleTurretParked s
  | .selftest => testTurretParked s

/-- A failed rotation is reported: to the cycle controller with TURRET_FAULT recorded, or to the self-test unit alone
(R73). -/
def rotationReported (req : TurretReq) (sub : SubReason) (target : Station) (s : State) : State :=
  match req with
  | .cycle => cycleTurretFailed (recordFault .turretFault (some sub) s)
  | .selftest =>
    match s.selftest.run with
    | some r => testTurretFailed r sub target s
    | none => s

/-- A rotation fails: the turret FAULT, the actuator told, the failure reported (R73). -/
def failRotation (r : Rotation) (sub : SubReason) (s : State) : State :=
  settle (rotationReported r.req sub r.target (turretAtRest (turretFault sub s)))

/-- A homing fails: the turret FAULT, the actuator told, HOME_FAIL recorded (R77). -/
def failHoming (sub : SubReason) (s : State) : State :=
  settle (recordFault .homeFail (some sub) (turretAtRest (turretFault sub s)))

/-- Homing is done: PARKED, the actuator told, success reported to the arbiter (R76). -/
def homingDone (n : Station) (s : State) : State :=
  settle (arbiterHomed (turretAtRest (setTurret (.parked n) s.turret.lastSub s)))

/-! ## STEP_REPORTED (R67, R75, R76) -/

/-- The turret's state and gated count replaced. -/
def setMotion (st : TurretState) (gated : Nat) (s : State) : State :=
  { s with turret := { s.turret with state := st, gated := gated } }

/-- The end of a homing mark: identified and placed, or MARK_UNKNOWN (R75, R76). -/
def endMark (h : Homing) (s : State) : State :=
  let c := s.turret.gated
  let searched := h.searched + 1
  match stationOfMark c with
  | some n =>
    { s with turret := { s.turret with
        state := .homing { phase := .place n 0 (markEndPos n), searched := searched }, lastMark := some (c, some n) } }
  | none => failHoming .markUnknown { s with turret := { s.turret with lastMark := some (c, none) } }

/-- A step counted in a homing (R75, R76). A step beyond the search limit is not asked for (log entry 7). -/
def homingStep (sensor : Bool) (h : Homing) (s : State) : State :=
  match h.phase with
  | .search seen =>
    if h.searched < Config.searchLimit then
      let out := countSearchStep sensor seen h s.turret.gated
      setMotion (.homing out.1) out.2 s
    else s
  | .mark =>
    if h.searched < Config.searchLimit then
      if sensor then setMotion (.homing { h with searched := h.searched + 1 }) (s.turret.gated + 1) s else endMark h s
    else s
  | .place n done pos => setMotion (.homing (countPlaceStep n done pos h)) s.turret.gated s

/-- A step of the motion in progress is counted, in ROTATING and HOMING alone (R67). -/
def countStep (sensor : Bool) (s : State) : State :=
  match s.turret.state with
  | .rotating r =>
    let out := countRotationStep sensor r s.turret.gated
    setMotion (.rotating out.1) out.2 s
  | .homing h => homingStep sensor h s
  | _ => s

/-- A step reported by the motor driver (R67): the pin has its level at the position reached (log entry 6), and the step is
counted, and the sensor read at it, unless it is late, asked for before a RESET or by another motion that is over (R66, R78; log entry 35). -/
def stepReported (report : StepReport) (s : State) : State :=
  let s1 := { s with pins := { s.pins with sensor := report.sensor } }
  if report.late then s1 else countStep report.sensor s1

/-- STEP_REPORTED (R66, R67). -/
def execStepReported (report : StepReport) (s : State) : Host.Outcome State Fault Refusal :=
  .next (stepReported report s)

/-! ## The ends of the phases -/

/-- The TRAVEL steps of the rotation are done (R70). -/
def travelDone (r : Rotation) : Bool := r.phase = .travel 0

/-- TRAVEL_END (R70, R71): the stroke starts with the gated count 0 and the sensor's reading at the stroke start, the last
counted step of TRAVEL. -/
def execTravelEnd (s : State) : Host.Outcome State Fault Refusal :=
  .next (match s.turret.state with
    | .rotating r =>
      if travelDone r then setMotion (.rotating { r with phase := .stroke 0 (!r.reading) }) 0 s else s
    | _ => s)

/-- The three checks at the end of a stroke (R71). -/
def strokeOk (clearAtStart sensor : Bool) (gated : Nat) (target : Station) : Bool :=
  clearAtStart && !sensor && markFits gated target

/-- The end of a stroke: confirmed, or MARK_MISMATCH (R71, R73). -/
def strokeEnd (r : Rotation) (clearAtStart : Bool) (s : State) : State :=
  let s1 := { s with turret := { s.turret with lastMark := some (s.turret.gated, some r.target) } }
  if strokeOk clearAtStart r.reading s.turret.gated r.target then
    settle (rotationParked r.req (turretAtRest (setTurret (.parked r.target) s.turret.lastSub s1)))
  else failRotation r .markMismatch s1

/-- STROKE_END (R71): after the 160th step of the stroke. -/
def execStrokeEnd (s : State) : Host.Outcome State Fault Refusal :=
  .next (match s.turret.state with
    | .rotating r =>
      match r.phase with
      | .stroke done clear => if done = Config.strokeSteps then strokeEnd r clear s else s
      | .travel _ => s
    | _ => s)

/-- HOMING_PLACED (R76): after the 20th step of the placement. -/
def execHomingPlaced (s : State) : Host.Outcome State Fault Refusal :=
  .next (match s.turret.state with
    | .homing h =>
      match h.phase with
      | .place n done _ => if done = Config.placeSteps then homingDone n s else s
      | _ => s
    | _ => s)

/-- The end of a mark has not been found: SEARCH or MARK (R75). -/
def markOpen (h : Homing) : Bool :=
  match h.phase with
  | .search _ => true
  | .mark => true
  | .place _ _ _ => false

/-- NO_MARK (R75): 18 000 steps searched and no end of a mark found. -/
def execNoMark (s : State) : Host.Outcome State Fault Refusal :=
  .next (match s.turret.state with
    | .homing h => if markOpen h && Config.searchLimit ≤ h.searched then failHoming .noMark s else s
    | _ => s)

/-! ## Timers -/

/-- ROTATION_TIMEOUT (R72): the timer runs while the turret is ROTATING. -/
def execRotationTimeout (s : State) : Host.Outcome State Fault Refusal :=
  .next (match s.turret.state with
    | .rotating r => failRotation r .rotationTimeout s
    | _ => s)

/-- HOME_TIMEOUT (R77): the timer runs while the turret is HOMING. -/
def execHomeTimeout (s : State) : Host.Outcome State Fault Refusal :=
  .next (match s.turret.state with
    | .homing _ => failHoming .homeTimeout s
    | _ => s)

end Sys2Proof.Machine
end

