-- ==== Sys2Proof/Machine/WorkEvents.lean ====
section
/-! DEFINITION. The events of the acquisition unit, the actuator, the capture engine, the measurement engine and the self-test
unit, and RESET. Each carries out its block's operation and then the decisions it causes (R23). -/

namespace Sys2Proof.Machine

/-! ## Acquisition and actuator -/

/-- ROUND_END (R81 to R86). -/
def execRoundEnd (force : List Word16) (depth : Word16) (s : State) : Host.Outcome State Fault Refusal :=
  .next (settle (roundEnd force depth s))

/-- REFERENCE_ROUND_END (R87, R184). -/
def execReferenceRoundEnd (force : List Word16) (depth : Word16) (s : State) : Host.Outcome State Fault Refusal :=
  .next (settle (referenceRoundEnd force depth s))

/-- TOP_LIMIT_ACTIVE (R89, R97). -/
def execTopLimitActive (s : State) : Host.Outcome State Fault Refusal := .next (settle (topLimitOn s))

/-- TOP_LIMIT_LOST (R90). -/
def execTopLimitLost (s : State) : Host.Outcome State Fault Refusal := .next (settle (topLimitOff s))

/-- LOAD_TIMEOUT (R94, R98). -/
def execLoadTimeout (s : State) : Host.Outcome State Fault Refusal := .next (settle (loadTimeout s))

/-- DWELL_DONE (R95). -/
def execDwellDone (s : State) : Host.Outcome State Fault Refusal := .next (settle (dwellDone s))

/-- STALL_TIMER_EXPIRY (R99). -/
def execStallTimerExpiry (s : State) : Host.Outcome State Fault Refusal := .next (settle (stallExpiry s))

/-! ## Capture and measurement -/

/-- A capture event's state and report handed to the cycle controller, then the decisions. -/
def captured (out : State × Option CapReport) : State := settle (cycleCaptured out.2 out.1)

/-- EXPOSURE_END (R110). -/
def execExposureEnd (s : State) : Host.Outcome State Fault Refusal := .next (takeExposureEnd s)

/-- PIXEL_VALUE (R105, R106). -/
def execPixelValue (value : Nat) (s : State) : Host.Outcome State Fault Refusal := .next (takePixel value s)

/-- LINE_SUM_WORD (R105, R109). -/
def execLineSumWord (word : Word16) (s : State) : Host.Outcome State Fault Refusal := .next (takeLineSum word s)

/-- FRAME_END_MARKER (R106, R111 to R115). -/
def execFrameEndMarker (s : State) : Host.Outcome State Fault Refusal := .next (captured (takeMarker s))

/-- FRAME_TIMEOUT (R112, R113). -/
def execFrameTimeout (s : State) : Host.Outcome State Fault Refusal := .next (captured (takeFrameTimeout s))

/-- TAIL_WAIT_EXPIRY (R115). -/
def execTailWaitExpiry (s : State) : Host.Outcome State Fault Refusal := .next (takeTailWait s)

/-- MEASUREMENT_END (R133, R134, R139). -/
def execMeasurementEnd (s : State) : Host.Outcome State Fault Refusal :=
  let out := takeMeasurementEnd s
  .next (settle (cycleMeasured out.2 out.1))

/-! ## Self-test -/

/-- FRAMESTORE_ITEM_END (R183, R186). -/
def execFramestoreItemEnd (bad : Option BadByte) (s : State) : Host.Outcome State Fault Refusal :=
  .next (match s.selftest.run with
    | some r => if r.item = .pattern ∨ r.item = .address then settle (frameItemEnd bad r s) else s
    | none => s)

/-! ## RESET (R20, R21, R89) -/

/-- Every block at its reset state; the pins are the machine's, the queue and the counter the model's own. -/
def cleared (s : State) : State := { State.reset with pending := s.pending, pins := s.pins, freeCount := s.freeCount }

/-- The end of reset: a top limit that reads active makes the actuator RETRACTED at once (R89), and a STOP line that
is asserted is a STOP taken in UNREADY (R21). -/
def afterReset (s : State) : State :=
  let s1 := if s.pins.topLimit then becomeRetracted s else s
  if s.pins.stopLine then takeStop s1 else s1

/-- RESET (R20). -/
def execReset (s : State) : Host.Outcome State Fault Refusal := .next (settle (afterReset (cleared s)))

/-! ## One millisecond (R94, R101, R119; log entry 1) -/

/-- The indenter's parameters give the target force of a loading that has run for some milliseconds (R94). -/
def rampNow (a : Actuator) : Option Int :=
  match a.params, a.contactForce with
  | some p, some c => some (rampTarget c p.force a.rampMs (p.loadTime * 100))
  | _, _ => a.target

/-- A millisecond of the actuator: the loading ramp in LOADING, the time since dwell began in DWELLING (R94, R101). -/
def actuatorMs (a : Actuator) : Actuator :=
  match a.state with
  | .loading =>
    let b := { a with rampMs := a.rampMs + 1 }
    { b with target := rampNow b }
  | .dwelling => { a with dwellMs := a.dwellMs + 1 }
  | _ => a

/-- One millisecond passes with no command waiting (log entry 1). -/
def tick (s : State) : State :=
  let s1 := advanceMeasure (onAct actuatorMs s)
  { s1 with freeCount := s1.freeCount + 1 }

end Sys2Proof.Machine
end

