-- ==== Sys2Proof/Machine/Dispatch.lean ====
section
/-! DEFINITION. The dispatch: each command of the table is one direct call of its meaning. -/

namespace Sys2Proof.Machine

/-- What a command does to everything but the queue. -/
def exec (i : Instr) (s : State) : Host.Outcome State Fault Refusal :=
  match i with
  | .jobOpen p => Sys2Proof.Machine.execJobOpen p s
  | .pointsAdd p => Sys2Proof.Machine.execPointsAdd p s
  | .jobHold p => Sys2Proof.Machine.execJobHold p s
  | .jobUnhold p => Sys2Proof.Machine.execJobUnhold p s
  | .jobCancel p => Sys2Proof.Machine.execJobCancel p s
  | .jobSetPriority p => Sys2Proof.Machine.execJobSetPriority p s
  | .jobQuery p => Sys2Proof.Machine.execJobQuery p s
  | .resultTake p => Sys2Proof.Machine.execResultTake p s
  | .resultFree p => Sys2Proof.Machine.execResultFree p s
  | .resultFreeOldest p => Sys2Proof.Machine.execResultFreeOldest p s
  | .resultRead p => Sys2Proof.Machine.execResultRead p s
  | .imageRead p => Sys2Proof.Machine.execImageRead p s
  | .mapClear p => Sys2Proof.Machine.execMapClear p s
  | .stageSettled p => Sys2Proof.Machine.execStageSettled p s
  | .stageFailed p => Sys2Proof.Machine.execStageFailed p s
  | .stationWrite p => Sys2Proof.Machine.execStationWrite p s
  | .stationRead p => Sys2Proof.Machine.execStationRead p s
  | .forceCurveWrite p => Sys2Proof.Machine.execForceCurveWrite p s
  | .forceCurveRead p => Sys2Proof.Machine.execForceCurveRead p s
  | .conversionWrite p => Sys2Proof.Machine.execConversionWrite p s
  | .conversionRead p => Sys2Proof.Machine.execConversionRead p s
  | .verifyTableRead p => Sys2Proof.Machine.execVerifyTableRead p s
  | .settingsWrite p => Sys2Proof.Machine.execSettingsWrite p s
  | .settingsRead p => Sys2Proof.Machine.execSettingsRead p s
  | .headStop p => Sys2Proof.Machine.execHeadStop p s
  | .headResume p => Sys2Proof.Machine.execHeadResume p s
  | .arbSetLast p => Sys2Proof.Machine.execArbSetLast p s
  | .selftest p => Sys2Proof.Machine.execSelftest p s
  | .portConfig p => Sys2Proof.Machine.execPortConfig p s
  | .badCommand p => Sys2Proof.Machine.execBadCommand p s
  | .post p tag code => Sys2Proof.Machine.execPost p tag code s
  | .withdraw p => Sys2Proof.Machine.execWithdraw p s
  | .acknowledge p => Sys2Proof.Machine.execAcknowledge p s
  | .controlWriteIgnored p state tag code => Sys2Proof.Machine.execControlWriteIgnored p state tag code s
  | .windowWrite p frame => Sys2Proof.Machine.execWindowWrite p frame s
  | .reset => Sys2Proof.Machine.execReset s
  | .stopLineAssert => Sys2Proof.Machine.execStopLineAssert s
  | .topLimitActive => Sys2Proof.Machine.execTopLimitActive s
  | .topLimitLost => Sys2Proof.Machine.execTopLimitLost s
  | .stepReported report => Sys2Proof.Machine.execStepReported report s
  | .travelEnd => Sys2Proof.Machine.execTravelEnd s
  | .strokeEnd => Sys2Proof.Machine.execStrokeEnd s
  | .homingPlaced => Sys2Proof.Machine.execHomingPlaced s
  | .noMark => Sys2Proof.Machine.execNoMark s
  | .rotationTimeout => Sys2Proof.Machine.execRotationTimeout s
  | .homeTimeout => Sys2Proof.Machine.execHomeTimeout s
  | .roundEnd force depth => Sys2Proof.Machine.execRoundEnd force depth s
  | .referenceRoundEnd force depth => Sys2Proof.Machine.execReferenceRoundEnd force depth s
  | .loadTimeout => Sys2Proof.Machine.execLoadTimeout s
  | .dwellDone => Sys2Proof.Machine.execDwellDone s
  | .stallTimerExpiry => Sys2Proof.Machine.execStallTimerExpiry s
  | .exposureEnd => Sys2Proof.Machine.execExposureEnd s
  | .pixelValue value => Sys2Proof.Machine.execPixelValue value s
  | .lineSumWord word => Sys2Proof.Machine.execLineSumWord word s
  | .frameEndMarker => Sys2Proof.Machine.execFrameEndMarker s
  | .frameTimeout => Sys2Proof.Machine.execFrameTimeout s
  | .tailWaitExpiry => Sys2Proof.Machine.execTailWaitExpiry s
  | .measurementEnd => Sys2Proof.Machine.execMeasurementEnd s
  | .settleTimerExpiry => Sys2Proof.Machine.execSettleTimerExpiry s
  | .framestoreItemEnd bad => Sys2Proof.Machine.execFramestoreItemEnd bad s
  | .attnPulseEnd p => Sys2Proof.Machine.execAttnPulseEnd p s
  | .attnPulseStart p => Sys2Proof.Machine.execAttnPulseStart p s
  | .stopLineRelease => Sys2Proof.Machine.execStopLineRelease s

end Sys2Proof.Machine
end

