-- ==== Sys2Proof/Machine/StatusPage.lean ====
section
/-! DEFINITION. What the outside sees without a command: the status page of each port (R199), a read transaction (R188), and
the lines the part drives to the motor, the camera and the spindle (R67, R88, R110). All are functions of the state:
looking changes nothing. Encodings the spec leaves open are in log entry 22. -/

namespace Sys2Proof.Machine

/-! ## Numbers of named values (R193) -/

/-- The number of a wait condition. -/
def waitCode : WaitCond → Nat
  | .none => 0 | .noWork => 1 | .waitResults => 2

/-- The number of a fault code. -/
def faultNum : FaultCode → Nat
  | .stop => 0 | .overload => 1 | .actuatorStall => 2 | .turretFault => 3 | .cameraTimeout => 4 | .homeFail => 5
  | .selftestFail => 6

/-- The number of a sub-reason, none 0. -/
def subNum : Option SubReason → Nat
  | none => 0
  | some r => subReasonCode r

/-- The number of a cycle state, in the order of R38. -/
def cycleNum : CycleState → Nat
  | .idle => 0 | .positioning => 1 | .indenting => 2 | .viewing => 3 | .capturing => 4 | .measuring => 5
  | .clearing => 6

/-- The number of a turret state, in the order of R66. -/
def turretNum : TurretState → Nat
  | .unknown => 0 | .homing _ => 1 | .parked _ => 2 | .rotating _ => 3 | .fault => 4

/-- The number of an actuator state, in the order of R88. -/
def actNum : ActState → Nat
  | .retracting => 0 | .retracted => 1 | .approaching => 2 | .loading => 3 | .dwelling => 4 | .unloading => 5
  | .stalled => 6

/-- The number of a capture state, in the order of R102. -/
def capNum : CapState → Nat
  | .idle => 0 | .waiting => 1 | .exposing => 2 | .receiving => 3 | .discarding => 4

/-- The number of a capture failure kind. -/
def failNum : FailKind → Nat
  | .pixelRange => 0 | .lineLength => 1 | .sumMismatch => 2 | .shortFrame => 3 | .longFrame => 4 | .frameTimeout => 5

/-- The number of a measurement detail. -/
def detailNum : Detail → Nat
  | .noImage => 0 | .contrast => 1 | .noRun => 2 | .clipped => 3 | .zeroLength => 4 | .zeroDiagonal => 5

/-- The number of a measurement phase, in the order of R119. -/
def phaseNum : Phase → Nat
  | .threshold => 0 | .profiles => 1 | .spans => 2 | .edges => 3 | .scale => 4

/-- The number of a measurement outcome (R193). -/
def outcomeNum : SummaryOutcome → Nat
  | .ended st => statusCode st
  | .abandoned => 15

/-! ## The regions (R199) -/

/-- 0x200: this port, the stage port, the attention mode, the four terms, the STOP line. -/
def portRegion (s : State) (p : Port) : List Byte :=
  u8 (portNum p) ++ u8 (portNum s.settings.stagePort) ++ u8 (attnModeCode (s.mailbox p).mode)
    ++ u8 (bitsOf (attnTerms s p)) ++ flagByte s.pins.stopLine

/-- A first or last fault: eight bytes (R199). -/
def faultBytes : Option FaultRecord → List Byte
  | none => List.replicate 8 0
  | some f =>
    u8 1 ++ u8 (faultNum f.code) ++ u8 (subNum f.sub) ++ u8 (headCode f.head)
      ++ optBytes 3 (fun (x : Handle × Nat) => u8 x.1.toNat ++ u16 x.2) f.point

/-- 0x210: the arbiter (R37). The granted point's handle and index take a presence byte each; they do not share one as in a
fault record; a burst holder of none is an absent value (log entry 22). -/
def headRegion (s : State) : List Byte :=
  let g := s.grantedPoint
  u8 (headCode s.arb.head) ++ u8 (waitCode s.arb.wait)
    ++ optBytes 1 (fun (q : Point) => u8 (s.handle q.slot).toNat) g ++ optBytes 2 (fun (q : Point) => u16 q.index) g
    ++ optBytes 1 (fun (h : Handle) => u8 h.toNat) s.arb.holder ++ u8 s.arb.burst
    ++ rotationBytes s.arb.rotation ++ u8 (if s.settings.rotationOn then 0 else 1)
    ++ faultBytes s.arb.first ++ faultBytes s.arb.last

/-- The two bytes of a job slot (R199). -/
def slotSummary (s : State) (i : Slot) : List Byte :=
  match (s.slot i).job with
  | none => u8 0 ++ u8 0
  | some j => u8 (1 + portNum j.owner) ++ u8 (bitsOf [s.eligible i, j.held, s.starved i, j.cancelling])

/-- 0x240: the job summary (R12, R37). -/
def jobRegion (s : State) : List Byte := allSlots.flatMap (slotSummary s)

/-- 0x260: the cycle controller (R64). -/
def cycleRegion (c : Cycle) : List Byte :=
  u8 (cycleNum c.state) ++ u8 (bitsOf [c.pendStage, c.pendTurret, c.pendActuator])
    ++ optBytes 1 (fun (n : Station) => u8 n.val) c.objective ++ flagByte c.fallbackUsed ++ flagByte c.retryUsed

/-- An order block; without an order every field reads 0 (R40). -/
def orderBytes : Option Order → List Byte
  | none => List.replicate 11 0
  | some o =>
    u8 o.seq.toNat ++ u8 (match o.kind with | .indentPos => 0 | .viewPos => 1) ++ i32 o.x ++ i32 o.y
      ++ u8 (orderStatusCode (some o))

/-- 0x270: the order block, on the stage port's page alone (R40, R195). -/
def orderRegion (s : State) (p : Port) : List Byte :=
  if s.settings.stagePort = p then orderBytes s.stage.order else orderBytes none

/-- The rotation in progress. -/
def Turret.rotation? (t : Turret) : Option Rotation :=
  match t.state with
  | .rotating r => some r
  | _ => none

/-- The station of a PARKED turret (R79). -/
def Turret.parked? (t : Turret) : Option Station :=
  match t.state with
  | .parked n => some n
  | _ => none

/-- The number of the phase of the motion in progress (R193). -/
def Turret.phase? (t : Turret) : Option Nat :=
  match t.state with
  | .rotating r => some (match r.phase with | .travel _ => 0 | .stroke _ _ => 1)
  | .homing h => some (match h.phase with | .search _ => 2 | .mark => 3 | .place _ _ _ => 4)
  | _ => none

/-- A station as one byte. -/
def stationByte (n : Station) : List Byte := u8 n.val

/-- 0x280: the turret (R79). Each item that may be absent takes its own presence byte (log entry 22). -/
def turretRegion (t : Turret) : List Byte :=
  u8 (turretNum t.state) ++ optBytes 1 stationByte t.parked?
    ++ optBytes 1 stationByte (t.rotation?.map Rotation.src) ++ optBytes 1 stationByte (t.rotation?.map Rotation.target)
    ++ optBytes 1 (fun d => u8 (match d with | Direction.cw => 0 | Direction.ccw => 1)) (t.rotation?.map Rotation.dir)
    ++ optBytes 1 u8 t.phase? ++ optBytes 2 u16 (t.lastMark.map Prod.fst)
    ++ optBytes 1 stationByte (t.lastMark.bind Prod.snd) ++ optBytes 1 (fun r => u8 (subReasonCode r)) t.lastSub

/-- An indent cycle runs: from the approach to the retraction that ends it (R101). -/
def Actuator.cycleRuns (a : Actuator) : Bool :=
  match a.state with
  | .approaching => true
  | .loading => true
  | .dwelling => true
  | .unloading => true
  | .retracting => (match a.requester with | some (.cycle, _) => true | _ => false)
  | _ => false

/-- The tared force of the latest reading while a cycle runs (R101). -/
def State.taredForce (s : State) : Option Int :=
  if s.act.cycleRuns then s.acq.force.map fun f => f - s.act.tare else none

/-- 0x2A0: the readings (R86) and the actuator (R101). A requester of none is an absent value: it and what it asked take a
presence byte each (log entry 22). -/
def readingRegion (s : State) : List Byte :=
  let q := s.acq
  let a := s.act
  i16 q.rawForce ++ i16 q.rawDepth ++ flagByte q.saturated ++ optBytes 4 i32 q.force ++ optBytes 4 i32 q.depth
    ++ u32 q.rounds.toNat ++ u8 (actNum a.state)
    ++ optBytes 1 (fun r => u8 (match r with | (ActReq.arbiter, _) => 0 | (ActReq.cycle, _) => 1)) a.requester
    ++ optBytes 1 (fun r => u8 (match r with | (_, Asked.retract) => 0 | (_, Asked.indent) => 1)) a.requester
    ++ flagByte a.held.isSome ++ flagByte s.pins.topLimit ++ i32 a.tare ++ optBytes 4 i32 a.target
    ++ optBytes 4 i32 s.taredForce ++ optBytes 4 i32 a.contactDepth ++ u32 a.dwellCount ++ u32 a.dwellMs
    ++ optBytes 4 i32 a.dwellMean ++ optBytes 4 u32 a.dwellTime ++ optBytes 4 i32 a.penetration
    ++ optBytes 1 (fun st => u8 (statusCode st)) a.lastFailure

/-- The lit quadrants as a set: bit q for quadrant q (R199). -/
def litByte (lit : List Nat) : Nat := (lit.map fun q => 2 ^ q).sum

/-- 0x300: capture engine and frame store (R118). The last failure detail, kind and line number, takes one presence byte,
LAST's image id and h_eff take one each (log entry 22). -/
def captureRegion (s : State) : List Byte :=
  let c := s.cap
  u8 (capNum c.state)
    ++ optBytes 1 (fun e => u8 (match e with | Exposure.single => 0 | Exposure.a => 1 | Exposure.b => 2)) c.exposure
    ++ u8 (litByte c.lit) ++ u8 c.exposureCount ++ u8 c.retryCount ++ u16 c.lineCount ++ flagByte c.tailDiscard
    ++ optBytes 3 (fun (x : FailKind × Nat) => u8 (failNum x.1) ++ u16 x.2) c.lastDetail
    ++ u16 c.imageCounter.toNat ++ u8 (cameraCode s.settings.camera)
    ++ optBytes 2 (fun (i : Word16) => u16 i.toNat) s.frames.lastId ++ optBytes 2 u16 s.frames.lastHEff

/-- A span as two indices. -/
def spanBytes (r : Nat × Nat) : List Byte := u16 r.1 ++ u16 r.2

/-- The fields of a last summary (R136). Each field that may be absent takes its own presence byte, a span one for its two
indices (log entry 22). -/
def summaryBytes (m : Summary) : List Byte :=
  u8 (outcomeNum m.outcome) ++ u16 m.imageId.toNat ++ optBytes 1 u8 m.threshold ++ optBytes 1 u8 m.t
    ++ optBytes 1 u8 m.b ++ optBytes 1 u8 m.d ++ optBytes 1 (fun x => u8 (detailNum x)) m.detail
    ++ optBytes 1 (fun x => u8 (match x with | Axis.column => 0 | Axis.row => 1)) m.axis
    ++ optBytes 4 spanBytes m.colSpan ++ optBytes 4 spanBytes m.rowSpan ++ optBytes 1 (fun x => u8 (phaseNum x)) m.phase

/-- 0x340: the measurement engine (R137). -/
def measRegion (s : State) : List Byte :=
  flagByte s.meas.run.isSome ++ optBytes 1 (fun x => u8 (phaseNum x)) (s.meas.run.map fun r => r.work.phase)
    ++ u8 s.settings.edgeLevel ++ u8 s.settings.minContrast ++ optBytes 27 summaryBytes s.meas.summary

/-- The counts of a port's records. -/
def recordCounts (s : State) (p : Port) : List Byte :=
  u8 (forPort s.results.untaken p).length ++ u8 (forPort s.results.taken p).length

/-- 0x380: result store and indent map (R170). -/
def resultRegion (s : State) (p : Port) : List Byte :=
  u8 s.results.free ++ u8 s.results.reserved ++ allPorts.flatMap (recordCounts s)
    ++ optBytes 2 (fun (r : Record) => u16 r.id.toNat) (forPort s.results.untaken p).head?
    ++ u16 s.results.counter.toNat ++ u8 s.map.length

/-- The last result of the self-test unit: its outcome and its fields (R186). -/
def testResultBytes (r : TestResult) : List Byte :=
  match r with
  | .passed => u8 0
  | .failed _ _ _ _ _ => testPayload 0 r
  | .abandoned _ => testPayload 0 r

/-- 0x3A0: the self-test unit (R186). The item running is its group and its number in the group, one byte each behind one
presence byte (log entry 22). -/
def testRegion (t : SelfTest) : List Byte :=
  optBytes 2 (fun (r : TestRun) => itemBytes r.item) t.run ++ optBytes 1 testResultBytes t.last

/-- The status page of a port, 512 bytes (R199). -/
def statusPage (s : State) (p : Port) : List Byte :=
  fitTo 16 (portRegion s p) ++ fitTo 48 (headRegion s) ++ fitTo 32 (jobRegion s) ++ fitTo 16 (cycleRegion s.cycle)
    ++ fitTo 16 (orderRegion s p) ++ fitTo 32 (turretRegion s.turret) ++ fitTo 96 (readingRegion s)
    ++ fitTo 64 (captureRegion s) ++ fitTo 64 (measRegion s) ++ fitTo 32 (resultRegion s p)
    ++ fitTo 32 (testRegion s.selftest) ++ fitTo 64 []

/-! ## Reading the window (R187, R188) -/

/-- The window of a port, 1024 bytes (R187). -/
def window (s : State) (p : Port) : List Byte :=
  let m := s.mailbox p
  controlBytes m ++ m.block ++ m.response ++ statusPage s p

/-- The byte a read finds at an address of a window copy; 0x400 and above hold nothing (R188). -/
def windowByte (w : List Byte) (a : Nat) : Byte := w.getD a 0

/-- The data bytes of a read transaction: `n` bytes from a start address, one copy of the window, wrapping from 0xFFFF
(R188). -/
def spiRead (s : State) (p : Port) (start n : Nat) : List Byte :=
  let w := window s p
  (List.range n).map fun i => windowByte w ((start + i) % 65536)

/-! ## The transaction in progress (R188; log entry 11)

The select line and the bytes of a transaction change nothing but the port's own transaction, and no row of the table names
them; a write takes effect by WINDOW_WRITE at its release. -/

/-- The port's select is asserted: a transaction begins. -/
def spiSelect (p : Port) (s : State) : State := { s with spi := withPort s.spi p (some {}) }

/-- A whole byte more of a transaction; with the second address byte a read takes its copy of the window `w`. -/
def SpiTransfer.push (w : List Byte) (b : Byte) (x : SpiTransfer) : SpiTransfer :=
  { bytes := x.bytes ++ [b]
    copy := if x.bytes.length = 2 ∧ x.bytes.head? = some 0x11 then some w else x.copy }

/-- A whole byte arrives on a port; without a transaction in progress, as after a RESET that dropped it, it is lost. -/
def spiByte (p : Port) (b : Byte) (s : State) : State :=
  match forPort s.spi p with
  | some x => { s with spi := withPort s.spi p (some (x.push (window s p) b)) }
  | none => s

/-- The byte the data line carries next: a read's data byte, from its copy, and 0 in every other transaction. That it is 0
during a frame's first three bytes, during a write and without a transaction is the model's choice. -/
def SpiTransfer.line (x : SpiTransfer) : Byte :=
  match x.bytes, x.copy with
  | _ :: hi :: lo :: data, some w => windowByte w ((256 * hi.toNat + lo.toNat + data.length) % 65536)
  | _, _ => 0

/-- The byte a port's data line carries next. -/
def spiLine (s : State) (p : Port) : Byte :=
  match forPort s.spi p with
  | some x => x.line
  | none => 0

/-- The command that the release of a port's select is; there is none when no transaction is in progress. -/
def spiRelease (s : State) (p : Port) : Option Instr := (forPort s.spi p).map fun x => .windowWrite p x.bytes

/-- What the data line carries during the bytes of a frame that meet one state throughout: the data bytes of a read after
its command and address, zeros for every other frame command (R188). -/
def spiReply (s : State) (p : Port) (frame : List Byte) : List Byte :=
  match frame with
  | cmd :: hi :: lo :: data =>
    if cmd = 0x11 then [0, 0, 0] ++ spiRead s p (256 * hi.toNat + lo.toNat) data.length
    else List.replicate frame.length 0
  | _ => List.replicate frame.length 0

/-! ## Lines the part drives -/

/-- How the spindle is driven (R88). -/
inductive DriveMode where
  | off
  | hold
  | up (speed : Nat)
  | down (speed : Nat)
  | force
deriving DecidableEq, Repr

/-- The spindle's drive (R88, R90). -/
def driveMode (a : Actuator) (topLimit : Bool) : DriveMode :=
  match a.state with
  | .retracting => .up Config.retractSpeed
  | .retracted => if topLimit then .hold else .up Config.retractSpeed
  | .approaching => .down ((a.params.map IndentParams.approach).getD 0)
  | .loading => .force
  | .dwelling => .force
  | .unloading => .force
  | .stalled => .off

/-- The step the drive asks the motor for, if any (R67, R70, R71, R75, R76). -/
def stepRequest (t : Turret) : Option Direction :=
  match t.state with
  | .rotating r =>
    match r.phase with
    | .travel left => if left = 0 then none else some r.dir
    | .stroke done _ => if done < Config.strokeSteps then some .cw else none
  | .homing h =>
    match h.phase with
    | .place _ done _ => if done < Config.placeSteps then some .cw else none
    | _ => if h.searched < Config.searchLimit then some .cw else none
  | _ => none

/-- The camera's trigger line: active while an exposure is sent (R110). -/
def triggerLine (c : Capture) : Bool := c.state = .exposing

/-- The frame timer's length in µs: exposure time + 250 ms (R110). -/
def frameTimerUs (r : CapRequest) : Nat := r.exposureUs + 1000 * Config.frameMarginMs

end Sys2Proof.Machine
end

