-- ==== Sys2Proof/Safety.lean ====
section
/-! DEFINITION. What a safe state of the HC-260 is, in the terms the statements use. Each condition is a rule of the spec
about the whole machine. -/

namespace Sys2Proof.Machine

/-- The interlock (R69, R90): while the turret turns, the actuator is RETRACTED. -/
def State.interlock (s : State) : Bool := !s.turret.moving || s.act.state = .retracted

/-- The rotation list holds the three ports, each once (R27). -/
def State.rotationWf (s : State) : Bool :=
  s.arb.rotation.length = 3 && allPorts.all fun p => s.arb.rotation.contains p

/-- The indent map holds at most 64 entries (R166). -/
def State.mapWf (s : State) : Bool := s.map.length ≤ Config.mapEntries

/-- No two entries of the verification table share a key (R177). -/
def distinctKeys : List VerifEntry → Bool
  | [] => true
  | e :: es => es.all (fun f => !(f.station = e.station && f.force = e.force)) && distinctKeys es

/-- The verification table holds at most 12 entries with distinct keys (R177). -/
def State.verifWf (s : State) : Bool :=
  s.verif.entries.length ≤ Config.verifEntries && distinctKeys s.verif.entries

/-- The burst count is 0 exactly while there is no burst holder (R26). -/
def State.burstWf (s : State) : Bool := (s.arb.burst = 0) = s.arb.holder.isNone

/-- A mailbox's command block has 252 bytes and its response block 256 (R187). -/
def Mailbox.sized (m : Mailbox) : Bool := m.block.length = 252 && m.response.length = 256

/-- Every mailbox has its sizes. -/
def State.windowsWf (s : State) : Bool := s.ports.a.sized && s.ports.b.sized && s.ports.c.sized

/-- The frame store is in canonical form (R103). -/
def State.framesWf (s : State) : Bool := s.frames.mem.wf

/-- A decision event is spent inside the step that made it (log entry 8). -/
def State.quiet (s : State) : Bool := !s.arb.due

/-- The wait condition is NONE in any head state but IDLE (R24). -/
def State.waitWf (s : State) : Bool := s.arb.head = .idle || s.arb.wait = .none

/-- A halted head has no burst holder (R26). -/
def State.haltWf (s : State) : Bool := s.arb.head ≠ .halted || s.arb.holder.isNone

/-- No job's half-size and no region of interest is above 480, so a region lies inside its buffer (R2, R103, R108). -/
def State.roiWf (s : State) : Bool :=
  allSlots.all (fun i => match (s.slot i).job with | some j => j.params.roi ≤ 480 | none => true) &&
  (match s.cap.roi with | some r => r.hEff ≤ 480 | none => true)

/-- The jobs of the table. -/
def State.jobCount (s : State) : Nat := (allSlots.filter fun i => (s.slot i).job.isSome).length

/-- The GRANTED points of the store. -/
def State.grantedPoints (s : State) : List Point := s.points.filter fun p => p.state = .granted

/-- The account of R29: a RESERVED slot for each job and one for the granted point, at most 96 slots in use. -/
def State.reservedWf (s : State) : Bool :=
  s.results.reserved = s.jobCount + s.grantedPoints.length &&
  s.results.reserved + s.results.records.length ≤ Config.resultSlots

/-- The granted point of the store is the one the cycle holds, of a job in the table, while the head is BUSY (R20, R38). -/
def State.grantWf (s : State) : Bool :=
  match s.cycle.granted with
  | some g => s.grantedPoints.map Point.slot = [g.slot] && (s.slot g.slot).job.isSome && s.arb.head = .busy
  | none => s.grantedPoints.isEmpty

/-- Each block works for its requester alone: the cycle while the head is BUSY, the capture engine in CAPTURING, the
measurement engine in MEASURING, the self-test unit in SELFTEST (R38, R102, R119, R182). -/
def State.workWf (s : State) : Bool :=
  (s.arb.head = .busy || s.cycle.state = .idle) && (s.cap.state = .idle || s.cycle.state = .capturing) &&
  (s.meas.run.isNone || s.cycle.state = .measuring) && (s.selftest.run.isNone || s.arb.head = .selftest)

/-- The whole account. -/
def State.accountWf (s : State) : Bool := s.reservedWf && s.grantWf && s.workWf

/-! ## What the statements say of an answer -/

/-- The command POSTED on a port has been answered, and nothing else reached the port's mailbox: its control word, its
block, its response, its previous code and its pulses are those of the answer (R191, R197). -/
def AnsweredWith (p : Port) (r : Reply) (s t : State) : Prop := t.mailbox p = answeredMailbox (s.mailbox p) r

/-- The same where the command also made other terms of the port true: the pulses are left open. -/
def ToldWith (p : Port) (r : Reply) (s t : State) : Prop :=
  (t.mailbox p).state = .answered ∧ (t.mailbox p).response = responseBlock (s.mailbox p) r ∧
  (t.mailbox p).prev = (s.mailbox p).code ∧ (t.mailbox p).tag = (s.mailbox p).tag ∧
  (t.mailbox p).code = (s.mailbox p).code ∧ (t.mailbox p).block = (s.mailbox p).block ∧
  (t.mailbox p).mode = (s.mailbox p).mode

/-- No other port's mailbox has changed. -/
def OthersKept (p : Port) (s t : State) : Prop := ∀ q, q ≠ p → t.mailbox q = s.mailbox q

/-- No other port's mailbox has changed but for the pulses of its attention line. -/
def OthersPulsed (p : Port) (s t : State) : Prop :=
  ∀ q, q ≠ p → { t.mailbox q with pulseActive := false, pulseScheduled := false } =
    { s.mailbox q with pulseActive := false, pulseScheduled := false }

/-- The command was answered and changed nothing but its own port's mailbox. -/
def OnlyAnswered (p : Port) (r : Reply) (s t : State) : Prop :=
  t = { s with ports := t.ports } ∧ AnsweredWith p r s t ∧ OthersKept p s t

/-! ## What the statements say of a STOP and of the clearing path -/

/-- The commands that take a STOP: HEAD_STOP POSTED on its port, and an assertion of a STOP line that is not asserted (R32). -/
def TakesStop (c : Instr) (s : State) : Prop :=
  (∃ p, c = .headStop p ∧ s.posted p 0x0501 = true) ∨ (c = .stopLineAssert ∧ s.pins.stopLine = false)

/-- What goes with the way into CLEARING (R43, R115, R135): a PENDING order is withdrawn, a capture in progress leaves the
engine IDLE with tail discard set where a frame may still come, a measurement in progress ends ABANDONED. -/
def WorkDropped (s t : State) : Prop :=
  (∀ o, s.pendingOrder = some o →
    t.stage = { s.stage with order := some { o with status := .withdrawn }, settleTimer := false }) ∧
  (s.pendingOrder = none → t.stage = s.stage) ∧
  t.cap = (if s.cap.state = .idle then s.cap
    else { s.cap with
      state := .idle, request := none, roi := none, exposure := none, lit := [], line := [], frameTimer := false
      tailDiscard := s.cap.tailDiscard || s.cap.state ≠ .waiting }) ∧
  (s.meas.run = none → t.meas = s.meas) ∧
  (∀ m, s.meas.run = some m → t.meas = {
    run := none
    summary := some {
      outcome := .abandoned, imageId := m.req.imageId, threshold := m.req.threshold, t := m.work.t, b := m.work.b
      d := m.work.d, detail := none, axis := none, colSpan := m.work.colSpan, rowSpan := m.work.rowSpan
      phase := some m.work.phase } })

/-- The cycle's point has ended on the clearing path with a status, its job staying in the table (R58, R59, R166): its record
stands last on the owner's untaken list with the known values and no diagonal, its reservation is used, the point has left
the store and is counted as failed, the map holds the indentation with diagonal 0 when contact was made, and the cycle
controller is as after reset. -/
def PointCleared (st : Status) (g : Granted) (j : Job) (s t : State) : Prop :=
  t.cycle = {} ∧ t.points = s.points.filter (fun p => !(p.slot = g.slot && p.state = .granted)) ∧
  t.slot g.slot = { s.slot g.slot with job := some { j with failed := j.failed + 1 } } ∧
  (∀ k, k ≠ g.slot → t.slot k = s.slot k) ∧
  forPort t.results.untaken j.owner = forPort s.results.untaken j.owner ++ [{
    id := s.newRecordId, port := j.owner, handle := g.handle, kind := j.params.kind, specimen := j.params.specimen
    status := st
    body := .point {
      index := g.index, tag := g.tag, x := g.x, y := g.y, objective := s.cycle.objective.getD j.params.objective
      flags := {
        roiReduced := s.cycle.known.roiReduced.getD false, fallback := s.cycle.fallbackUsed, retry := s.cycle.retryUsed
        unverified := isUnverified s.verif j.params.indenter j.params.force }
      force := s.cycle.known.force, dwellTime := s.cycle.known.dwellTime, depth := s.cycle.known.depth, diags := none
      hardness := none, secondary := none, imageId := s.cycle.known.imageId } }] ∧
  (∀ q, q ≠ j.owner → forPort t.results.untaken q = forPort s.results.untaken q) ∧
  t.results.taken = s.results.taken ∧ t.results.reserved = s.results.reserved - 1 ∧
  t.results.counter = s.newRecordId ∧
  (s.cycle.contactMade = false → t.map = s.map) ∧
  (s.cycle.contactMade = true → t.map.getLast? = some {
    specimen := j.params.specimen, x := g.x, y := g.y, diag := 0, recordId := s.newRecordId }) ∧
  t.verif.counter = s.verif.counter ∧ (j.params.kind ≠ .measure → t.verif = s.verif)

/-- The command block of a port. -/
def State.blockOf (s : State) (p : Port) : List Byte := (s.mailbox p).block

end Sys2Proof.Machine
end

