-- ==== Sys2Proof/Certificates/Slice0/Obligations.lean ====
section
/-! DEFINITION. The statements for the provers. Each names the commands it is about and says what they change and what they
leave; `t = { s with … }` is the frame: every item not named there is unchanged. -/

open Sys2Proof Sys2Proof.Machine

/-! ## The step -/

/-- The step runs the command at the front of the queue on the state with the queue's rest. -/
def Obligations.StepRunsFrontCommand : Prop :=
  ∀ (c : Instr) (q : List Instr) (s : State), s.pending = c :: q → step s = exec c (s.withPending q)

/-- On an empty queue one millisecond passes (log entry 1, the model's choice): the loading target follows R94, the dwell
time of R101 rises, a measurement may get on, and nothing else changes. -/
def Obligations.IdleStepIsOneMillisecond : Prop :=
  ∀ s : State, s.pending = [] → ∃ t, step s = .next t ∧
    t = { s with act := t.act, meas := t.meas, freeCount := s.freeCount + 1 } ∧
    (s.act.state = .dwelling → t.act = { s.act with dwellMs := s.act.dwellMs + 1 }) ∧
    (s.act.state = .loading → ∀ p c, s.act.params = some p → s.act.contactForce = some c →
      t.act = { s.act with
        rampMs := s.act.rampMs + 1
        target := some (if s.act.rampMs + 1 < p.loadTime * 100 then
            c + roundHalfUp (((p.force : Int) - c) * ((s.act.rampMs + 1 : Nat) : Int)) ((p.loadTime * 100 : Nat) : Int)
          else (p.force : Int)) }) ∧
    (s.act.state ≠ .loading → s.act.state ≠ .dwelling → t.act = s.act) ∧
    t.meas.summary = s.meas.summary ∧ t.meas.run.map MeasRun.req = s.meas.run.map MeasRun.req

/-- No command changes the queue of waiting commands. -/
def Obligations.CommandsLeaveTheQueue : Prop :=
  ∀ (c : Instr) (s t : State), exec c s = .next t → t.pending = s.pending

/-! ## Job commands -/

/-- JOB_OPEN with its checks passed: the lowest free slot takes the job with the caller as owner, the next open sequence
and every counter 0, its accumulation is cleared, one result slot is RESERVED, and handle and open sequence are answered. -/
def Obligations.JobOpenOpens : Prop :=
  ∀ (p : Port) (q : JobParams) (i : Slot) (s : State),
    s.posted p 0x0101 = true → jobOpenParams (s.blockOf p) = some q → s.uncalibrated = false →
    stationCheck q (s.station q.indenter) (s.station q.objective) = true → s.freeSlot = some i → s.results.free ≠ 0 →
    ∃ t, exec (.jobOpen p) s = .next t ∧
      t = { s with
        ports := t.ports, jobs := t.jobs, openOrder := s.openOrder + 1
        results := { s.results with reserved := s.results.reserved + 1 } } ∧
      (s.slot i).job = none ∧ (∀ k : Slot, k < i → (s.slot k).job ≠ none) ∧
      t.slot i = {
        gen := (s.slot i).gen
        job := some {
          params := q, owner := p, openSeq := s.openOrder, list := .opened, cancelling := false, held := false
          added := 0, ok := 0, failed := 0, skipped := 0, voided := 0, nextIndex := 0 }
        acc := { hardness := 0, x := 0, y := 0, count := 0 } } ∧
      (∀ k, k ≠ i → t.slot k = s.slot k) ∧
      AnsweredWith p (.ok (u8 (s.handle i).toNat ++ u32 s.openOrder.toNat)) s t ∧ OthersKept p s t

/-- JOB_OPEN's refusals in their order: BAD_PARAM, NOT_CALIBRATED, BAD_PARAM for the stations, TABLE_FULL, RESULTS_FULL.
Each changes nothing but the answer. -/
def Obligations.JobOpenRefusalOrder : Prop :=
  ∀ (p : Port) (s : State), s.posted p 0x0101 = true →
    ∃ t r, exec (.jobOpen p) s = .next t ∧
      (jobOpenParams (s.blockOf p) = none → r = RefuseReason.badParam) ∧
      (∀ q, jobOpenParams (s.blockOf p) = some q →
        (s.uncalibrated = true → r = .notCalibrated) ∧
        (s.uncalibrated = false →
          (stationCheck q (s.station q.indenter) (s.station q.objective) = false → r = .badParam) ∧
          (stationCheck q (s.station q.indenter) (s.station q.objective) = true →
            (s.freeSlot = none → r = .tableFull) ∧
            (s.freeSlot ≠ none → s.results.free = 0 → r = .resultsFull)))) ∧
      ((jobOpenParams (s.blockOf p) = none ∨
        ∃ q, jobOpenParams (s.blockOf p) = some q ∧
          (s.uncalibrated = true ∨ stationCheck q (s.station q.indenter) (s.station q.objective) = false ∨
            s.freeSlot = none ∨ s.results.free = 0)) →
        OnlyAnswered p (refuse r) s t)

/-- Refusals change nothing but the answer. A code outside the table is refused BAD_COMMAND. A command on a job (POINTS_ADD,
JOB_HOLD, JOB_UNHOLD, JOB_CANCEL, JOB_SET_PRIORITY, JOB_QUERY) is refused, in this order, BAD_PARAM for parameters out of
range, NO_SUCH_JOB for a handle that names none, NOT_OWNER from another port than the owner's and WRONG_STATE for a
CANCELLING job, the last two not for JOB_QUERY. POINTS_ADD is refused WRONG_STATE for a CLOSED list too, then BAD_PARAM for
more than 65 535 points in all, then POINTS_FULL with the free point slots as payload. A stage answer is refused
NOT_STAGE_PORT from any port but the stage port, and STALE_ORDER without a PENDING order of the seq it carries, with the
current order's seq and status as payload. -/
def Obligations.RefusalsChangeNothing : Prop :=
  ∀ (p : Port) (c : Instr) (code : Word16) (good : Bool) (s : State),
    ((s.mailbox p).state = .posted → (s.mailbox p).code ∉ commandCodes →
      ∃ t, exec (.badCommand p) s = .next t ∧ OnlyAnswered p (refuse .badCommand) s t) ∧
    ((c, code, good) ∈ [(Instr.jobHold p, (0x0103 : Word16), true), (.jobUnhold p, 0x0104, true),
        (.jobCancel p, 0x0105, true), (.jobQuery p, 0x0107, true),
        (.pointsAdd p, 0x0102, (pointsAddParams (s.blockOf p)).isSome),
        (.jobSetPriority p, 0x0106, decide (readU (s.blockOf p) 1 1 ≤ 7))] → s.posted p code = true →
      (good = false → ∃ t, exec c s = .next t ∧ OnlyAnswered p (refuse .badParam) s t) ∧
      (good = true → s.findJob (handleAt (s.blockOf p)) = none →
        ∃ t, exec c s = .next t ∧ OnlyAnswered p (refuse .noSuchJob) s t) ∧
      (∀ i j, good = true → s.findJob (handleAt (s.blockOf p)) = some (i, j) → c ≠ .jobQuery p →
        (j.owner ≠ p → ∃ t, exec c s = .next t ∧ OnlyAnswered p (refuse .notOwner) s t) ∧
        (j.owner = p → j.cancelling = true →
          ∃ t, exec c s = .next t ∧ OnlyAnswered p (refuse .wrongState) s t))) ∧
    (∀ more pts i j, s.posted p 0x0102 = true → pointsAddParams (s.blockOf p) = some (more, pts) →
      s.findJob (handleAt (s.blockOf p)) = some (i, j) → j.owner = p → j.cancelling = false →
      (j.list = .closed → ∃ t, exec (.pointsAdd p) s = .next t ∧ OnlyAnswered p (refuse .wrongState) s t) ∧
      (j.list = .opened → 65535 < j.added + pts.length →
        ∃ t, exec (.pointsAdd p) s = .next t ∧ OnlyAnswered p (refuse .badParam) s t) ∧
      (j.list = .opened → j.added + pts.length ≤ 65535 → s.freePoints < pts.length →
        ∃ t, exec (.pointsAdd p) s = .next t ∧
          OnlyAnswered p (.refused .pointsFull (u16 (256 - s.points.length))) s t)) ∧
    ((c, code) ∈ [(Instr.stageSettled p, (0x0301 : Word16)), (.stageFailed p, 0x0302)] → s.posted p code = true →
      (s.settings.stagePort ≠ p → ∃ t, exec c s = .next t ∧ OnlyAnswered p (refuse .notStagePort) s t) ∧
      (s.settings.stagePort = p → (∀ o, s.pendingOrder = some o → o.seq ≠ seqParam (s.blockOf p)) →
        ∃ t, exec c s = .next t ∧
          OnlyAnswered p (.refused .staleOrder (match s.stage.order with
            | some o => u8 o.seq.toNat ++ u8 (match o.status with
                | .pending => 1 | .settled => 2 | .failed => 3 | .expired => 4 | .withdrawn => 5)
            | none => u8 0 ++ u8 0)) s t))

/-- POINTS_ADD with its checks passed and the head not IDLE: the points join the store PENDING with rising indices, the
counters rise, MORE = 0 closes the list, and index, count, free slots and list state are answered. A block that closes the
list of a job left without points is the next statement's. -/
def Obligations.PointsAddAppends : Prop :=
  ∀ (p : Port) (more : Bool) (pts : List (Int × Int × Nat)) (i : Slot) (j : Job) (s : State),
    s.posted p 0x0102 = true → pointsAddParams (s.blockOf p) = some (more, pts) →
    s.findJob (handleAt (s.blockOf p)) = some (i, j) → j.owner = p → j.cancelling = false → j.list = .opened →
    j.added + pts.length ≤ 65535 → pts.length ≤ s.freePoints → s.arb.head ≠ .idle → s.arb.due = false →
    (more = true ∨ pts ≠ [] ∨ s.pointsOf i ≠ []) →
    ∃ t, exec (.pointsAdd p) s = .next t ∧
      t = { s with ports := t.ports, jobs := t.jobs, points := t.points } ∧
      t.points = s.points ++ pts.zipIdx.map (fun e =>
        { slot := i, index := j.nextIndex + e.2, tag := e.1.2.2, x := e.1.1, y := e.1.2.1, state := .pending }) ∧
      t.slot i = { s.slot i with job := some { j with
        added := j.added + pts.length, nextIndex := j.nextIndex + pts.length
        list := if more then .opened else .closed } } ∧
      (∀ k, k ≠ i → t.slot k = s.slot k) ∧
      AnsweredWith p (.ok (u16 j.nextIndex ++ u8 pts.length ++ u16 (256 - (s.points.length + pts.length))
        ++ u8 (if more then 0 else 1))) s t ∧ OthersKept p s t

/-- POINTS_ADD with count 0 and MORE = 0 on a job without points: the job finishes within the command. Its JOB_END record,
FINISHED and with the counts, stands last on the owner's untaken list, its reservation is used, its slot is free with the
generation advanced, and a burst it held has ended. A MEASURE job changes no table. A VERIFY job takes mean, deviation and
verdict from its accumulation, advances the verification counter and puts its entry over the one of its key, else at the
end of a table of fewer than 12, else over the entry given up: a LAPSED one before a VERIFIED one, then the smallest
sequence. An OFFSET_CAL job takes correction and verdict from its accumulation; APPLIED, the correction is added to the
objective's offset and every other OFFSET_CAL job on the objective restarts; otherwise the tables stay. -/
def Obligations.ClosingAnEmptyJobFinishesIt : Prop :=
  ∀ (p : Port) (i : Slot) (j : Job) (s : State),
    s.posted p 0x0102 = true → pointsAddParams (s.blockOf p) = some (false, []) →
    s.findJob (handleAt (s.blockOf p)) = some (i, j) → j.owner = p → j.cancelling = false → j.list = .opened →
    s.pointsOf i = [] → j.added ≤ 65535 → s.arb.due = false →
    let acc := (s.slot i).acc
    ∃ t b, exec (.pointsAdd p) s = .next t ∧
      t = { s with ports := t.ports, jobs := t.jobs, results := t.results, arb := t.arb, verif := t.verif, cal := t.cal } ∧
      t.slot i = { s.slot i with gen := (s.slot i).gen + 1, job := none } ∧
      forPort t.results.untaken p = forPort s.results.untaken p ++ [{
        id := s.newRecordId, port := p, handle := s.handle i, kind := j.params.kind, specimen := j.params.specimen
        status := .ok, body := .jobEnd b }] ∧
      b.reason = .finished ∧ b.openSeq = j.openSeq ∧ b.ok = j.ok ∧ b.failed = j.failed ∧ b.skipped = j.skipped ∧
      b.voided = j.voided ∧
      (∀ q, q ≠ p → forPort t.results.untaken q = forPort s.results.untaken q) ∧
      t.results.taken = s.results.taken ∧ t.results.reserved = s.results.reserved - 1 ∧
      t.results.counter = s.newRecordId ∧
      t.arb = (if s.arb.holder = some (s.handle i) then { s.arb with holder := none, burst := 0 } else s.arb) ∧
      ToldWith p (.ok (u16 j.nextIndex ++ u8 0 ++ u16 s.freePoints ++ u8 1)) s t ∧ OthersKept p s t ∧
      (j.params.kind ≠ .verify → b.mean = none ∧ b.verdict = none ∧ t.verif = s.verif) ∧
      (j.params.kind ≠ .offsetCal → b.correction = none ∧ b.offVerdict = none ∧ t.cal = s.cal ∧
        ∀ k, k ≠ i → t.slot k = s.slot k) ∧
      (∀ r tol, j.params.kind = .verify → j.params.reference = some r → j.params.tolerance = some tol →
        let mean : Int := (2 * acc.hardness + acc.count) / (2 * acc.count)
        let dev : Int := (2 * (((mean - r).natAbs : Int) * 1000) + r) / (2 * r)
        let e : VerifEntry := {
          station := j.params.indenter, force := j.params.force, verified := decide (acc.count ≠ 0 ∧ dev.toNat ≤ tol)
          mean := if acc.count = 0 then none else some mean.toNat, since := 0, seq := s.verif.counter + 1 }
        let sameKey : VerifEntry → VerifEntry → Bool := fun f g => f.station = g.station && f.force = g.force
        (acc.count = 0 → b.mean = none ∧ b.verdict = some .noValidPoints) ∧
        (acc.count ≠ 0 → b.mean = some (mean.toNat, dev.toNat) ∧
          b.verdict = some (if dev.toNat ≤ tol then .passed else .failed)) ∧
        t.verif.counter = s.verif.counter + 1 ∧
        ((∃ f ∈ s.verif.entries, sameKey f e = true) →
          t.verif.entries = s.verif.entries.map fun f => if sameKey f e then e else f) ∧
        ((∀ f ∈ s.verif.entries, sameKey f e = false) → s.verif.entries.length < 12 →
          t.verif.entries = s.verif.entries ++ [e]) ∧
        ((∀ f ∈ s.verif.entries, sameKey f e = false) → 12 ≤ s.verif.entries.length →
          ∃ v ∈ s.verif.entries, t.verif.entries = (s.verif.entries.map fun f => if sameKey f v then e else f) ∧
            ∀ f ∈ s.verif.entries, (v.verified = true → f.verified = true) ∧
              (f.verified = v.verified → v.seq.toNat ≤ f.seq.toNat))) ∧
      (∀ o, j.params.kind = .offsetCal → s.station j.params.objective = .objective o →
        let nm : Int → Int := fun sum => (2 * sum + acc.count) / (2 * acc.count)
        let c : Int × Int := ((2 * nm acc.x + 100) / 200, (2 * nm acc.y + 100) / 200)
        let fits : Prop := -500 ≤ c.1 ∧ c.1 ≤ 500 ∧ -500 ≤ c.2 ∧ c.2 ≤ 500 ∧ -200000 ≤ o.dx + c.1 ∧ o.dx + c.1 ≤ 200000 ∧
          -200000 ≤ o.dy + c.2 ∧ o.dy + c.2 ≤ 200000
        (acc.count = 0 → b.correction = none ∧ b.offVerdict = some .noValidPoints) ∧
        (acc.count ≠ 0 → b.correction = some c) ∧
        (acc.count ≠ 0 → ¬ fits → b.offVerdict = some .rejectedRange) ∧
        (acc.count = 0 ∨ ¬ fits → t.cal = s.cal ∧ ∀ k, k ≠ i → t.slot k = s.slot k) ∧
        (acc.count ≠ 0 → fits → b.offVerdict = some .applied ∧ t.cal = { s.cal with stations := t.cal.stations } ∧
          t.station j.params.objective = .objective { o with dx := o.dx + c.1, dy := o.dy + c.2 } ∧
          (∀ k, k ≠ j.params.objective → t.station k = s.station k) ∧
          (∀ k, k ≠ i → (s.slot k).job = none → t.slot k = s.slot k) ∧
          ∀ k jk, k ≠ i → (s.slot k).job = some jk →
            t.slot k = (if jk.params.kind = .offsetCal ∧ jk.params.objective = j.params.objective
              then { s.slot k with acc := {} } else s.slot k)))

/-- JOB_HOLD, JOB_UNHOLD and JOB_SET_PRIORITY on a live job of the caller's: the one field changes. A hold ends the burst of
its job. An unhold is taken here where it makes no job eligible that was not, or with the head not IDLE. -/
def Obligations.HoldUnholdPriority : Prop :=
  ∀ (p : Port) (i : Slot) (j : Job) (s : State),
    s.findJob (handleAt (s.blockOf p)) = some (i, j) → j.owner = p → j.cancelling = false → s.arb.due = false →
    (s.posted p 0x0103 = true → ∃ t, exec (.jobHold p) s = .next t ∧
      t = { s with ports := t.ports, jobs := t.jobs, arb := t.arb } ∧
      t.slot i = { s.slot i with job := some { j with held := true } } ∧ (∀ k, k ≠ i → t.slot k = s.slot k) ∧
      t.arb = (if s.arb.holder = some (s.handle i) then { s.arb with holder := none, burst := 0 } else s.arb) ∧
      AnsweredWith p (.ok []) s t ∧ OthersKept p s t) ∧
    (s.posted p 0x0104 = true → (s.arb.head ≠ .idle ∨ s.pendingOf i = [] ∨ j.held = false) →
      ∃ t, exec (.jobUnhold p) s = .next t ∧ t = { s with ports := t.ports, jobs := t.jobs } ∧
        t.slot i = { s.slot i with job := some { j with held := false } } ∧ (∀ k, k ≠ i → t.slot k = s.slot k) ∧
        AnsweredWith p (.ok []) s t ∧ OthersKept p s t) ∧
    (s.posted p 0x0106 = true → ∀ v, priorityParam (s.blockOf p) = some v →
      ∃ t, exec (.jobSetPriority p) s = .next t ∧ t = { s with ports := t.ports, jobs := t.jobs } ∧
        t.slot i = { s.slot i with job := some { j with params := { j.params with priority := v } } } ∧
        (∀ k, k ≠ i → t.slot k = s.slot k) ∧
        AnsweredWith p (.ok (u8 j.params.priority ++ u8 v)) s t ∧ OthersKept p s t)

/-- JOB_CANCEL on a job without a granted point ends it within the command: every point of it is gone and counted as
skipped, its JOB_END record reads CANCELLED with the counts and stands last on the owner's untaken list alone, its reservation is used,
its slot is free, and FINISHED_NOW is answered. -/
def Obligations.CancelEndsAnIdleJob : Prop :=
  ∀ (p : Port) (i : Slot) (j : Job) (s : State),
    s.posted p 0x0105 = true → s.findJob (handleAt (s.blockOf p)) = some (i, j) → j.owner = p → j.cancelling = false →
    s.grantedOf i = none → s.arb.due = false →
    ∃ t, exec (.jobCancel p) s = .next t ∧
      t = { s with ports := t.ports, jobs := t.jobs, points := t.points, results := t.results, arb := t.arb } ∧
      t.points = s.points.filter (fun q => q.slot ≠ i) ∧
      t.slot i = { s.slot i with gen := (s.slot i).gen + 1, job := none } ∧ (∀ k, k ≠ i → t.slot k = s.slot k) ∧
      (∃ r b, forPort t.results.untaken p = forPort s.results.untaken p ++ [r] ∧ r.body = .jobEnd b ∧
        r.id = s.newRecordId ∧ r.handle = s.handle i ∧ r.port = p ∧ b.reason = .cancelled ∧ b.ok = j.ok ∧
        b.failed = j.failed ∧ b.skipped = j.skipped + (s.pendingOf i).length ∧ b.voided = j.voided ∧
        b.verdict = none ∧ b.offVerdict = none) ∧
      (∀ q, q ≠ p → forPort t.results.untaken q = forPort s.results.untaken q) ∧
      t.results.taken = s.results.taken ∧ t.results.reserved = s.results.reserved - 1 ∧
      t.results.counter = s.newRecordId ∧
      t.arb = (if s.arb.holder = some (s.handle i) then { s.arb with holder := none, burst := 0 } else s.arb) ∧
      ToldWith p (.ok (u16 (s.pendingOf i).length ++ u8 0)) s t ∧ OthersKept p s t

/-- JOB_CANCEL on the granted point's job: in POSITIONING with a rotation in flight the grant is voided (order withdrawn,
point gone without a record, its reservation released, the job finished CANCELLED, the cycle CLEARING without a point and
waiting for the turret, the head BUSY); in any later state the job is CANCELLING and its point runs on. -/
def Obligations.CancelVoidsOrDrains : Prop :=
  ∀ (p : Port) (i : Slot) (j : Job) (g : Point) (s : State),
    s.posted p 0x0105 = true → s.findJob (handleAt (s.blockOf p)) = some (i, j) → j.owner = p → j.cancelling = false →
    s.grantedOf i = some g → s.arb.head = .busy → s.arb.due = false →
    (s.cycle.state = .positioning → s.cycle.pendTurret = true → s.turret.rotating = true →
      ∃ t, exec (.jobCancel p) s = .next t ∧
        t = { s with
          ports := t.ports, jobs := t.jobs, points := t.points, results := t.results, arb := t.arb, cycle := t.cycle
          stage := t.stage } ∧
        t.points = s.points.filter (fun q => q.slot ≠ i) ∧ (t.slot i).job = none ∧
        (∀ k, k ≠ i → t.slot k = s.slot k) ∧
        (∀ o, s.pendingOrder = some o → t.stage.order = some { o with status := .withdrawn } ∧
          t.stage.settleTimer = false) ∧
        (∃ r b, forPort t.results.untaken p = forPort s.results.untaken p ++ [r] ∧ r.body = .jobEnd b ∧
          b.reason = .cancelled ∧ b.voided = j.voided + 1 ∧ b.skipped = j.skipped + (s.pendingOf i).length) ∧
        t.results.reserved = s.results.reserved - 1 - 1 ∧
        t.cycle.state = .clearing ∧ t.cycle.granted = none ∧ t.cycle.pendTurret = true ∧ t.cycle.pendStage = false ∧
        t.arb.head = .busy ∧ ToldWith p (.ok (u16 (s.pendingOf i).length ++ u8 1)) s t) ∧
    (s.cycle.state ≠ .positioning →
      ∃ t, exec (.jobCancel p) s = .next t ∧ t = { s with ports := t.ports, jobs := t.jobs, points := t.points } ∧
        t.points = s.points.filter (fun q => !(q.slot = i && q.state = .pending)) ∧
        t.slot i = { s.slot i with job := some { j with
          held := false, cancelling := true, skipped := j.skipped + (s.pendingOf i).length } } ∧
        (∀ k, k ≠ i → t.slot k = s.slot k) ∧
        AnsweredWith p (.ok (u16 (s.pendingOf i).length ++ u8 2)) s t ∧ OthersKept p s t)

/-- JOB_QUERY answers the job's entry, its PENDING points and its granted point, from any port, and changes nothing. -/
def Obligations.JobQueryAnswers : Prop :=
  ∀ (p : Port) (i : Slot) (j : Job) (s : State),
    s.posted p 0x0107 = true → s.findJob (handleAt (s.blockOf p)) = some (i, j) →
    ∃ t, exec (.jobQuery p) s = .next t ∧ OnlyAnswered p (.ok (queryPayload i j s)) s t ∧
      (queryPayload i j s).length = 61

/-! ## Result commands, images, the map -/

/-- RESULT_TAKE hands over the oldest UNTAKEN record of the caller's port and makes it TAKEN; with none it is refused
NO_RECORD. -/
def Obligations.ResultTakeHandsOver : Prop :=
  ∀ (p : Port) (s : State), s.posted p 0x0201 = true →
    (∀ r rs, forPort s.results.untaken p = r :: rs → ∃ t, exec (.resultTake p) s = .next t ∧
      t = { s with ports := t.ports, results := { s.results with untaken := t.results.untaken, taken := t.results.taken } } ∧
      forPort t.results.untaken p = rs ∧ forPort t.results.taken p = forPort s.results.taken p ++ [r] ∧
      (∀ q, q ≠ p → forPort t.results.untaken q = forPort s.results.untaken q ∧
        forPort t.results.taken q = forPort s.results.taken q) ∧
      AnsweredWith p (.ok (recordBytes r ++ u8 rs.length)) s t ∧ OthersKept p s t) ∧
    (forPort s.results.untaken p = [] →
      ∃ t, exec (.resultTake p) s = .next t ∧ OnlyAnswered p (refuse .noRecord) s t)

/-- RESULT_FREE and RESULT_FREE_OLDEST with the head not IDLE: the record leaves the caller's taken list, and its id, the
TAKEN records left and the FREE slots are answered. RESULT_FREE's refusals: NO_RECORD for an id no record has, NOT_OWNER
for another port's record, WRONG_STATE for an UNTAKEN one; RESULT_FREE_OLDEST's: NO_RECORD without a TAKEN record. -/
def Obligations.ResultFreeFrees : Prop :=
  ∀ (p : Port) (s : State), s.arb.head ≠ .idle → s.arb.due = false →
    (s.posted p 0x0202 = true →
      let id := recordIdParam (s.blockOf p)
      (s.results.takenWith id = none → s.results.untakenWith id = none →
        ∃ t, exec (.resultFree p) s = .next t ∧ OnlyAnswered p (refuse .noRecord) s t) ∧
      (∀ r, s.results.takenWith id = some r → r.port ≠ p →
        ∃ t, exec (.resultFree p) s = .next t ∧ OnlyAnswered p (refuse .notOwner) s t) ∧
      (∀ r, s.results.takenWith id = none → s.results.untakenWith id = some r →
        ∃ t, exec (.resultFree p) s = .next t ∧
          OnlyAnswered p (refuse (if r.port = p then .wrongState else .notOwner)) s t)) ∧
    (s.posted p 0x0203 = true → forPort s.results.taken p = [] →
      ∃ t, exec (.resultFreeOldest p) s = .next t ∧ OnlyAnswered p (refuse .noRecord) s t) ∧
    (∀ r, s.posted p 0x0202 = true → s.results.takenWith (recordIdParam (s.blockOf p)) = some r → r.port = p →
      ∃ t, exec (.resultFree p) s = .next t ∧
        t = { s with ports := t.ports, results := { s.results with taken := t.results.taken } } ∧
        forPort t.results.taken p =
          (forPort s.results.taken p).filter (fun x => x.id ≠ recordIdParam (s.blockOf p)) ∧
        (∀ q, q ≠ p → forPort t.results.taken q = forPort s.results.taken q) ∧
        AnsweredWith p (.ok (u16 (recordIdParam (s.blockOf p)).toNat ++ u8 (forPort t.results.taken p).length
          ++ u8 t.results.free)) s t ∧ OthersKept p s t) ∧
    (∀ r rs, s.posted p 0x0203 = true → forPort s.results.taken p = r :: rs →
      ∃ t, exec (.resultFreeOldest p) s = .next t ∧
        t = { s with ports := t.ports, results := { s.results with taken := t.results.taken } } ∧
        forPort t.results.taken p = rs ∧ (∀ q, q ≠ p → forPort t.results.taken q = forPort s.results.taken q) ∧
        AnsweredWith p (.ok (u16 r.id.toNat ++ u8 rs.length ++ u8 t.results.free)) s t ∧ OthersKept p s t)

/-- RESULT_READ answers the record of an id with its state, UNTAKEN 0 or TAKEN 1, from any port, or NO_RECORD. Nothing
else changes. A record takes 64 bytes. -/
def Obligations.ResultReadAnswers : Prop :=
  ∀ (p : Port) (s : State), s.posted p 0x0204 = true →
    let id := recordIdParam (s.blockOf p)
    (∀ r, s.results.untakenWith id = some r →
      ∃ t, exec (.resultRead p) s = .next t ∧ OnlyAnswered p (.ok (recordBytes r ++ u8 0)) s t ∧
        (recordBytes r).length = 64) ∧
    (∀ r, s.results.untakenWith id = none → s.results.takenWith id = some r →
      ∃ t, exec (.resultRead p) s = .next t ∧ OnlyAnswered p (.ok (recordBytes r ++ u8 1)) s t) ∧
    (s.results.untakenWith id = none → s.results.takenWith id = none →
      ∃ t, exec (.resultRead p) s = .next t ∧ OnlyAnswered p (refuse .noRecord) s t)

/-- IMAGE_READ of LAST's id inside its square answers id, row, column, count and the bytes of LAST as they stand, byte by
byte; another id is refused IMAGE_GONE; a place outside the square BAD_PARAM. Nothing else changes. -/
def Obligations.ImageReadAnswers : Prop :=
  ∀ (p : Port) (id : Word16) (row col n : Nat) (s : State),
    s.posted p 0x0205 = true → imageReadParams (s.blockOf p) = some (id, row, col, n) →
    (∀ h, s.frames.lastId = some id → s.frames.lastHEff = some h → row < 2 * h → col + n ≤ 2 * h →
      ∃ t, exec (.imageRead p) s = .next t ∧
        OnlyAnswered p (.ok (u16 id.toNat ++ u16 row ++ u16 col ++ u8 n ++
          (List.range n).map fun k => Memory.read s.frames.mem (frameAddr s.frames.last.val row (col + k)))) s t) ∧
    (s.frames.lastId ≠ some id → ∃ t, exec (.imageRead p) s = .next t ∧ OnlyAnswered p (refuse .imageGone) s t) ∧
    (∀ h, s.frames.lastId = some id → s.frames.lastHEff = some h → (2 * h ≤ row ∨ 2 * h < col + n) →
      ∃ t, exec (.imageRead p) s = .next t ∧ OnlyAnswered p (refuse .badParam) s t)

/-- MAP_CLEAR ONE removes the entries of one specimen and keeps the others in their order, ALL removes every entry, and the
numbers removed and left are answered; a scope that is neither is refused BAD_PARAM. From any port, in every head state,
nothing else changes (R168). -/
def Obligations.MapClearRemoves : Prop :=
  ∀ (p : Port) (s : State), s.posted p 0x0206 = true →
    (∀ scope, mapClearParams (s.blockOf p) = some scope →
      ∃ t, exec (.mapClear p) s = .next t ∧ t = { s with ports := t.ports, map := t.map } ∧
        t.map = (match scope with
          | some id => s.map.filter (fun e => e.specimen ≠ id)
          | none => []) ∧
        AnsweredWith p (.ok (u8 (s.map.length - t.map.length) ++ u8 t.map.length)) s t ∧ OthersKept p s t) ∧
    (1 < readU (s.blockOf p) 0 1 → ∃ t, exec (.mapClear p) s = .next t ∧ OnlyAnswered p (refuse .badParam) s t)

/-! ## The stage -/

/-- The end of the PENDING order while the turret turns. STAGE_SETTLED: the order is SETTLED, the settle timer stops, STAGE
leaves the pending set. STAGE_FAILED and the settle timer's expiry: the order is FAILED or EXPIRED, the outcome
STAGE_FAILED or STAGE_TIMEOUT, and the cycle is CLEARING, waiting for the turret alone or with the actuator. -/
def Obligations.OrdersEnd : Prop :=
  ∀ (o : Order) (s : State),
    s.pendingOrder = some o → (s.cycle.state = .positioning ∨ s.cycle.state = .viewing) → s.cycle.pendTurret = true →
    s.arb.due = false →
    (∀ p, s.posted p 0x0301 = true → s.settings.stagePort = p → o.seq = seqParam (s.blockOf p) →
      ∃ t, exec (.stageSettled p) s = .next t ∧
        t = { s with
          ports := t.ports
          stage := { s.stage with order := some { o with status := .settled }, settleTimer := false }
          cycle := { s.cycle with pendStage := false } } ∧
        AnsweredWith p (.ok []) s t ∧ OthersKept p s t) ∧
    (s.turret.rotating = true → s.cap.state = .idle → s.meas.run = none →
      (∀ p, s.posted p 0x0302 = true → s.settings.stagePort = p → o.seq = seqParam (s.blockOf p) →
        ∃ t, exec (.stageFailed p) s = .next t ∧
          t = { s with
            ports := t.ports
            stage := { s.stage with order := some { o with status := .failed }, settleTimer := false }
            cycle := { s.cycle with
              state := .clearing, outcome := some .stageFailed, pendStage := false
              pendActuator := s.cycle.pendActuator && !s.act.atRest } } ∧
          AnsweredWith p (.ok []) s t ∧ OthersKept p s t) ∧
      (s.stage.settleTimer = true →
        exec .settleTimerExpiry s = .next { s with
          stage := { s.stage with order := some { o with status := .expired }, settleTimer := false }
          cycle := { s.cycle with
            state := .clearing, outcome := some .stageTimeout, pendStage := false
            pendActuator := s.cycle.pendActuator && !s.act.atRest } }))

/-- The last completion of POSITIONING starts the indent: with the stage settled last, the actuator RETRACTED, the turret at
rest and both readings present, the cycle is INDENTING with ACTUATOR pending, and the actuator is APPROACHING with the
job's force, loading time, dwell, approach speed and travel limit and the indenter's contact threshold and maximum force,
the tare and reference depth of the latest round and its cycle items cleared. The order is SETTLED and the answer OK. -/
def Obligations.LastCompletionStartsTheIndent : Prop :=
  ∀ (p : Port) (o : Order) (g : Granted) (j : Job) (f d : Int) (s : State),
    s.posted p 0x0301 = true → s.settings.stagePort = p → s.pendingOrder = some o → o.seq = seqParam (s.blockOf p) →
    s.cycle.state = .positioning → s.cycle.pendTurret = false → s.cycleJob = some (g, j) → s.act.state = .retracted →
    s.turret.moving = false → s.acq.force = some f → s.acq.depth = some d → s.arb.due = false →
    ∃ t, exec (.stageSettled p) s = .next t ∧
      t = { s with ports := t.ports, stage := t.stage, cycle := t.cycle, act := t.act } ∧
      t.cycle = { s.cycle with state := .indenting, pendStage := false, pendActuator := true } ∧
      t.stage = { s.stage with order := some { o with status := .settled }, settleTimer := false } ∧
      t.act = { s.act with
        state := .approaching, requester := some (.cycle, .indent), held := none
        params := some {
          force := j.params.force, loadTime := j.params.loadTime, dwell := j.params.dwell, approach := j.params.approach
          travel := j.params.travel, threshold := (s.indenterOf j.params.indenter).threshold
          maxForce := (s.indenterOf j.params.indenter).maxForce }
        tare := f, refDepth := some d, contactMade := false, contactForce := none, contactDepth := none, target := none
        dwellSum := 0, dwellCount := 0, dwellMean := none, dwellTime := none, penetration := none
        lastFailure := none } ∧
      AnsweredWith p (.ok []) s t ∧ OthersKept p s t

/-! ## Calibration, settings, verification -/

/-- STATION_WRITE taken: the record alone is replaced; an entry lapses exactly when the pair (S, corr) changed or the write
makes or unmakes an indenter of its station; the VERIFY jobs on those keys and the OFFSET_CAL jobs on the station restart;
the number of entries newly lapsed is answered. -/
def Obligations.StationWriteLapses : Prop :=
  ∀ (p : Port) (n : Station) (new : StationRec) (s : State),
    s.posted p 0x0401 = true → stationWriteParams (s.blockOf p) = some (n, new) → s.writesBusy = false →
    let covers : Station → Bool := fun k =>
      (s.station n).pair ≠ new.pair || (((s.station n).isIndenter || new.isIndenter) && k = n)
    ∃ t, exec (.stationWrite p) s = .next t ∧
      t = { s with ports := t.ports, cal := t.cal, verif := t.verif, jobs := t.jobs } ∧
      t.cal = { s.cal with stations := t.cal.stations } ∧ t.station n = new ∧ (∀ k, k ≠ n → t.station k = s.station k) ∧
      t.verif = { s.verif with
        entries := s.verif.entries.map fun e => if covers e.station then { e with verified := false } else e } ∧
      (∀ i j, (s.slot i).job = some j →
        t.slot i = (if (j.params.kind = .verify ∧ covers j.params.indenter = true) ∨
          (j.params.kind = .offsetCal ∧ j.params.objective = n) then { s.slot i with acc := {} } else s.slot i)) ∧
      AnsweredWith p (.ok (u8 (s.verif.entries.filter fun e => covers e.station && e.verified).length)) s t ∧
      OthersKept p s t

/-- FORCE_CURVE_WRITE taken replaces curve, depth zero and depth scale together, lapses every entry and restarts every
VERIFY job. CONVERSION_WRITE taken replaces profile and points and lapses nothing. SETTINGS_WRITE taken replaces every
setting; a change of the edge level lapses every entry and restarts every VERIFY job, any other change lapses nothing. -/
def Obligations.TheOtherWritesReplace : Prop :=
  ∀ (p : Port) (s : State), s.writesBusy = false →
    (∀ w, s.posted p 0x0403 = true → forceCurveParams (s.blockOf p) = some w →
      ∃ t, exec (.forceCurveWrite p) s = .next t ∧ t = { s with
          ports := t.ports, jobs := t.jobs
          cal := { s.cal with curve := w.1, depthZero := w.2.1, depthScale := w.2.2 }
          verif := { s.verif with entries := s.verif.entries.map fun e => { e with verified := false } } } ∧
        (∀ i j, (s.slot i).job = some j →
          t.slot i = (if j.params.kind = .verify then { s.slot i with acc := {} } else s.slot i)) ∧
        AnsweredWith p (.ok (u8 (s.verif.entries.filter fun e => e.verified).length)) s t ∧ OthersKept p s t) ∧
    (∀ w, s.posted p 0x0405 = true → conversionParams (s.blockOf p) = some w →
      ∃ t, exec (.conversionWrite p) s = .next t ∧
        t = { s with ports := t.ports, cal := { s.cal with convProfile := w.1, convPoints := w.2 } } ∧
        AnsweredWith p (.ok (u8 0)) s t ∧ OthersKept p s t) ∧
    (∀ v, s.posted p 0x0408 = true → settingsParams (s.blockOf p) = some v →
      ∃ t, exec (.settingsWrite p) s = .next t ∧
        t = { s with ports := t.ports, settings := v, verif := t.verif, jobs := t.jobs } ∧
        (v.edgeLevel = s.settings.edgeLevel → t.verif = s.verif ∧ t.jobs = s.jobs) ∧
        (v.edgeLevel ≠ s.settings.edgeLevel →
          t.verif = { s.verif with entries := s.verif.entries.map fun e => { e with verified := false } } ∧
          ∀ i j, (s.slot i).job = some j →
            t.slot i = (if j.params.kind = .verify then { s.slot i with acc := {} } else s.slot i)) ∧
        AnsweredWith p (.ok (u8 (if v.edgeLevel = s.settings.edgeLevel then 0
          else (s.verif.entries.filter fun e => e.verified).length))) s t ∧ OthersKept p s t)

/-- The four calibration and settings writes check every parameter first (BAD_PARAM) and the head state next (BUSY while it
is BUSY, SELFTEST or RECOVERING). A refused write changes nothing but the answer. -/
def Obligations.WritesAreRefusedWhileTheHeadWorks : Prop :=
  ∀ (p : Port) (c : Instr) (code : Word16) (good : Bool) (s : State),
    (c, code, good) ∈ [(Instr.stationWrite p, (0x0401 : Word16), (stationWriteParams (s.blockOf p)).isSome),
      (.forceCurveWrite p, 0x0403, (forceCurveParams (s.blockOf p)).isSome),
      (.conversionWrite p, 0x0405, (conversionParams (s.blockOf p)).isSome),
      (.settingsWrite p, 0x0408, (settingsParams (s.blockOf p)).isSome)] → s.posted p code = true →
    (good = false → ∃ t, exec c s = .next t ∧ OnlyAnswered p (refuse .badParam) s t) ∧
    (good = true → (s.arb.head = .busy ∨ s.arb.head = .selftest ∨ s.arb.head = .recovering) →
      ∃ t, exec c s = .next t ∧ OnlyAnswered p (refuse .busy) s t)

/-- The five reads answer the table as it stands, in every head state, and change nothing; STATION_READ above station 5 is
refused BAD_PARAM. Each payload's length follows from the table's (the layout of STATION_READ and the count of
VERIFY_TABLE_READ are the model's, log entries 19 and 20). -/
def Obligations.ReadsAnswerTheTables : Prop :=
  ∀ (p : Port) (s : State),
    (∀ n, s.posted p 0x0402 = true → stationAt (s.blockOf p) 0 = some n → ∃ t, exec (.stationRead p) s = .next t ∧
      OnlyAnswered p (.ok (stationPayload (s.station n))) s t ∧ (stationPayload (s.station n)).length = 49) ∧
    (s.posted p 0x0402 = true → 5 < readU (s.blockOf p) 0 1 →
      ∃ t, exec (.stationRead p) s = .next t ∧ OnlyAnswered p (refuse .badParam) s t) ∧
    (s.posted p 0x0404 = true → ∃ t, exec (.forceCurveRead p) s = .next t ∧
      OnlyAnswered p (.ok (forceCurvePayload s.cal)) s t ∧
      (forceCurvePayload s.cal).length = 5 + 6 * s.cal.curve.length) ∧
    (s.posted p 0x0406 = true → ∃ t, exec (.conversionRead p) s = .next t ∧
      OnlyAnswered p (.ok (conversionPayload s.cal)) s t ∧
      (conversionPayload s.cal).length = 2 + 8 * s.cal.convPoints.length) ∧
    (s.posted p 0x0407 = true → ∃ t, exec (.verifyTableRead p) s = .next t ∧
      OnlyAnswered p (.ok (verifyTablePayload s.verif s.settings.interval)) s t ∧
      (verifyTablePayload s.verif s.settings.interval).length = 7 + 17 * s.verif.entries.length) ∧
    (s.posted p 0x0409 = true → ∃ t, exec (.settingsRead p) s = .next t ∧
      OnlyAnswered p (.ok (settingsPayload s.settings)) s t ∧ (settingsPayload s.settings).length = 12)

/-- SETTINGS_READ and SETTINGS_WRITE agree: the block that SETTINGS_READ's payload would be, taken as SETTINGS_WRITE's
parameters, spells the settings back, for every setting within its range. -/
def Obligations.SettingsPayloadReadsBack : Prop :=
  ∀ (v : Settings) (rest : List Byte),
    1 ≤ v.settleTimeout → v.settleTimeout ≤ 60 →
    (v.round.prescale = 1 ∨ v.round.prescale = 4 ∨ v.round.prescale = 16) → 1 ≤ v.round.period → v.round.period ≤ 256 →
    1 ≤ v.round.n → v.round.n ≤ 16 → 1 ≤ v.edgeLevel → v.edgeLevel ≤ 16 → 1 ≤ v.minContrast → v.minContrast ≤ 255 →
    v.interval ≤ 65535 → settingsParams (settingsPayload v ++ rest) = some v

/-! ## The head -/

/-- HEAD_STOP and an assertion of the STOP line take a STOP: with the head IDLE, UNREADY or RECOVERING the head is HALTED at
once, STOP is the last fault (and the first where there was none), the burst ends, a homing in progress is left UNKNOWN,
and the actuator goes on, or lifts again when it is RETRACTED at the end of the homing without its top limit; with the head
HALTED only the faults change. HEAD_STOP answers the head state before. With the head SELFTEST the test is abandoned: the
last result and SELFTEST's answer are ABANDONED with the item reached, a turret motion is left UNKNOWN, a reference round
asked for or under way is cancelled, and each byte of the buffers holds its old value or one the item writes
(log entry 15). -/
def Obligations.StopHaltsTheHead : Prop :=
  ∀ (c : Instr) (s : State), TakesStop c s → s.arb.due = false → s.act.held = none →
    let fault : FaultRecord := {
      code := .stop, sub := none, head := s.arb.head
      point := s.grantedPoint.map fun g => (s.handle g.slot, g.index) }
    let landed : Actuator :=
      if s.turret.moving = true ∧ s.act.state = .retracted ∧ s.pins.topLimit = false then
        { s.act with state := .retracting, stallTimer := true, requester := none }
      else s.act
    (s.arb.head ≠ .busy → s.arb.head ≠ .selftest → ∃ t, exec c s = .next t ∧
      t = { s with ports := t.ports, arb := t.arb, turret := t.turret, act := t.act, pins := t.pins } ∧
      t.arb = (if s.arb.head = .halted then { s.arb with first := t.arb.first, last := t.arb.last }
        else { s.arb with
          head := .halted, wait := .none, holder := none, burst := 0, first := t.arb.first, last := t.arb.last }) ∧
      t.arb.last = some fault ∧ t.arb.first = some (s.arb.first.getD fault) ∧
      ((s.arb.head = .unready ∨ s.arb.head = .recovering) →
        t.turret = (if s.turret.moving then { s.turret with state := .unknown } else s.turret) ∧ t.act = landed) ∧
      ((s.arb.head = .idle ∨ s.arb.head = .halted) → t.turret = s.turret ∧ t.act = s.act) ∧
      t.pins.topLimit = s.pins.topLimit ∧ t.pins.sensor = s.pins.sensor ∧
      (t.pins.stopLine = (s.pins.stopLine || c = .stopLineAssert)) ∧
      (∀ p, c = .headStop p → ToldWith p (.ok (u8 (headCode s.arb.head))) s t)) ∧
    (∀ r, s.arb.head = .selftest → s.selftest.run = some r → (s.mailbox r.port).state = .working →
      ∃ t, exec c s = .next t ∧
        t = { s with
          ports := t.ports, pins := { s.pins with stopLine := s.pins.stopLine || c = .stopLineAssert }
          arb := { s.arb with
            head := .halted, wait := .none, holder := none, burst := 0, testFault := false
            first := some (s.arb.first.getD fault), last := some fault }
          selftest := { run := none, last := some (.abandoned r.item) }
          turret := t.turret, act := t.act, acq := t.acq, frames := t.frames, freeCount := t.freeCount } ∧
        (r.item = .turret →
          t.turret = (if s.turret.moving then { s.turret with state := .unknown } else s.turret) ∧ t.act = landed) ∧
        (r.item ≠ .turret → t.turret = s.turret ∧ t.act = s.act) ∧
        ((r.item = .force ∨ r.item = .depth) → t.acq = { s.acq with
          refSwitched := false, refRequested := false
          round := if s.acq.refSwitched then s.settings.round else s.acq.round }) ∧
        (r.item ≠ .force → r.item ≠ .depth → t.acq = s.acq) ∧
        ((r.item = .pattern ∨ r.item = .address) → t.frames = { s.frames with mem := t.frames.mem } ∧
          ∀ a, a < 1843200 → Memory.read t.frames.mem a ∈
            (Memory.read s.frames.mem a :: if r.item = .pattern then [85, 170, 0, 255]
              else [BitVec.ofNat 8 (a % 960 + 7 * (a % 921600 / 960) + 131 * (a / 921600)), 0])) ∧
        (r.item ≠ .pattern → r.item ≠ .address → t.frames = s.frames ∧ t.freeCount = s.freeCount) ∧
        ToldWith r.port (.ok (u8 2 ++ itemBytes r.item)) s t ∧
        (∀ p, c = .headStop p → ToldWith p (.ok (u8 3)) s t))

/-- A STOP with the head BUSY. In POSITIONING to MEASURING the outcome is ABORTED, halt on end is set, the order is
withdrawn, capture and measurement are abandoned, and the cycle is CLEARING. It waits for a rotation in flight; an actuator
that is neither RETRACTED nor STALLED is asked to retract and waited for (LOADING and DWELLING give UNLOADING with the depth
reached known, APPROACHING below its top limit RETRACTING, UNLOADING and RETRACTING go on); with nothing to wait for, an
APPROACHING actuator at its top limit included, the ABORTED record follows at once and the head is HALTED. In CLEARING the
outcome is kept, and an actuator on its way up that was not asked to retract is asked, but not after a void. That CLEARING
waits for it too, and that an abandoned capture keeps its line count, are the model's reading (log entries 28 and 36). -/
def Obligations.StopAbortsTheRunningPoint : Prop :=
  ∀ (c : Instr) (s : State), TakesStop c s → s.arb.head = .busy → s.arb.due = false →
    let fault : FaultRecord := {
      code := .stop, sub := none, head := .busy
      point := s.grantedPoint.map fun g => (s.handle g.slot, g.index) }
    let pins : Pins := { s.pins with stopLine := s.pins.stopLine || c = .stopLineAssert }
    let arb : Arbiter := { s.arb with first := some (s.arb.first.getD fault), last := some fault }
    let turning : Bool := s.cycle.pendTurret && s.turret.rotating
    (s.cycle.state ≠ .idle → s.cycle.state ≠ .clearing →
      (s.act.atRest = true → turning = true → ∃ t, exec c s = .next t ∧
        t = { s with
          ports := t.ports, pins := pins, arb := arb, stage := t.stage, cap := t.cap, meas := t.meas
          cycle := { s.cycle with
            state := .clearing, outcome := some .aborted, haltOnEnd := true, pendStage := false
            pendActuator := false } } ∧
        WorkDropped s t ∧ (∀ p, c = .headStop p → ToldWith p (.ok (u8 2)) s t)) ∧
      (s.act.atRest = false → ¬ (s.act.state = .approaching ∧ s.pins.topLimit = true) → ∃ t, exec c s = .next t ∧
        t = { s with
          ports := t.ports, pins := pins, arb := arb, stage := t.stage, cap := t.cap, meas := t.meas, act := t.act
          cycle := { s.cycle with
            state := .clearing, outcome := some .aborted, haltOnEnd := true, pendStage := false, pendTurret := turning
            pendActuator := true, known := t.cycle.known } } ∧
        WorkDropped s t ∧
        ((s.act.state = .loading ∨ s.act.state = .dwelling) →
          t.act = { s.act with
            state := .unloading, requester := some (.cycle, .retract), held := none, stallTimer := true
            loadTimer := false, dwellTimer := false } ∧
          (∀ from' d, s.act.contactMade = true → s.act.contactDepth = some from' → s.acq.depth = some d →
            t.cycle.known = { s.cycle.known with depth := some (max 0 (d - from')) }) ∧
          (s.act.contactMade = false → t.cycle.known = s.cycle.known)) ∧
        (s.act.state = .approaching → t.cycle.known = s.cycle.known ∧ t.act = { s.act with
          state := .retracting, requester := some (.cycle, .retract), held := none, stallTimer := true
          loadTimer := false, dwellTimer := false }) ∧
        ((s.act.state = .unloading ∨ s.act.state = .retracting) → t.cycle.known = s.cycle.known ∧
          t.act = { s.act with requester := some (.cycle, .retract), held := none }) ∧
        (∀ p, c = .headStop p → ToldWith p (.ok (u8 2)) s t)) ∧
      (∀ g j, (s.act.atRest = true ∨ (s.act.state = .approaching ∧ s.pins.topLimit = true)) → turning = false →
        s.cycleJob = some (g, j) → s.pendingOf g.slot ≠ [] → ∃ t, exec c s = .next t ∧
          t = { s with
            ports := t.ports, pins := pins, stage := t.stage, cap := t.cap, meas := t.meas, cycle := t.cycle
            points := t.points, jobs := t.jobs, results := t.results, map := t.map, verif := t.verif
            arb := { arb with head := .halted, wait := .none, holder := none, burst := 0 }
            act := if s.act.atRest then s.act
              else { s.act with
                state := .retracted, requester := none, held := none, stallTimer := false, loadTimer := false
                dwellTimer := false } } ∧
          WorkDropped s t ∧ PointCleared .aborted g j s t ∧
          (∀ p, c = .headStop p → ToldWith p (.ok (u8 2)) s t))) ∧
    (s.cycle.state = .clearing → (s.act.atRest = true ∨ s.act.state = .unloading ∨ s.act.state = .retracting) →
      ∃ t, exec c s = .next t ∧
        t = { s with
          ports := t.ports, pins := pins, arb := arb
          cycle := { s.cycle with haltOnEnd := true, pendActuator := t.cycle.pendActuator }, act := t.act } ∧
        (if s.cycle.granted.isSome ∧ s.act.atRest = false ∧ s.act.requester ≠ some (.cycle, .retract) then
          t.cycle.pendActuator = true ∧ t.act = { s.act with requester := some (.cycle, .retract), held := none }
        else t.cycle.pendActuator = s.cycle.pendActuator ∧ t.act = s.act) ∧
        (∀ p, c = .headStop p → ToldWith p (.ok (u8 2)) s t))

/-- HEAD_RESUME: refused WRONG_STATE unless the head is HALTED, refused STOP_ACTIVE while the line is asserted; otherwise the
head is RECOVERING and RECOVERING is answered, and the actuator is asked to retract: one that is RETRACTED with the turret
at rest has the turret HOMING at once, one that is STALLED with the top limit inactive is RETRACTING with the stall timer
running. The faults stay. That the answer's state is RECOVERING is the model's reading (log entry 32). -/
def Obligations.HeadResumeRecovers : Prop :=
  ∀ (p : Port) (s : State), s.posted p 0x0502 = true → s.arb.due = false →
    (s.arb.head ≠ .halted → ∃ t, exec (.headResume p) s = .next t ∧ OnlyAnswered p (refuse .wrongState) s t) ∧
    (s.arb.head = .halted → s.pins.stopLine = true →
      ∃ t, exec (.headResume p) s = .next t ∧ OnlyAnswered p (refuse .stopActive) s t) ∧
    (s.arb.head = .halted → s.pins.stopLine = false → s.act.state = .retracted → s.turret.moving = false →
      ∃ t, exec (.headResume p) s = .next t ∧
        t = { s with
          ports := t.ports, arb := { s.arb with head := .recovering }
          act := { s.act with held := none, stallTimer := false, requester := none }
          turret := { s.turret with
            state := .homing { phase := .search (!s.pins.sensor), searched := 0 }, gated := 0 } } ∧
        AnsweredWith p (.ok (u8 5)) s t ∧ OthersKept p s t) ∧
    (s.arb.head = .halted → s.pins.stopLine = false → s.act.state = .stalled → s.pins.topLimit = false →
      ∃ t, exec (.headResume p) s = .next t ∧
        t = { s with
          ports := t.ports, arb := { s.arb with head := .recovering }
          act := { s.act with
            state := .retracting, held := none, requester := some (.arbiter, .retract), stallTimer := true
            loadTimer := false, dwellTimer := false } } ∧
        AnsweredWith p (.ok (u8 5)) s t ∧ OthersKept p s t)

/-- ARB_SET_LAST (R28), from any port, in every head state and either rotation mode: a value that names no port is refused
BAD_PARAM; the named port moves to the end, the other two keep their order, the new list is answered, the port that is
last already changes nothing, burst and decision latch are untouched (no grant follows), and any later decision over this
list follows it with rotation ON and the order PA, PB, PC with rotation OFF. That the list is answered as three port bytes
without a count is the model's reading (log entry 37). -/
def Obligations.ArbSetLastMovesThePort : Prop :=
  ∀ (p : Port) (s : State), s.posted p 0x0503 = true →
    (2 < readU (s.blockOf p) 0 1 → ∃ t, exec (.arbSetLast p) s = .next t ∧ OnlyAnswered p (refuse .badParam) s t) ∧
    (∀ q, readU (s.blockOf p) 0 1 = portNum q → ∃ t, exec (.arbSetLast p) s = .next t ∧
      t = { s with ports := t.ports, arb := { s.arb with rotation := t.arb.rotation } } ∧
      t.arb.rotation = s.arb.rotation.filter (fun x => x ≠ q) ++ [q] ∧
      (s.rotationWf = true → s.arb.rotation.getLast? = some q → t.arb.rotation = s.arb.rotation) ∧
      AnsweredWith p (.ok ((t.arb.rotation.map fun x => BitVec.ofNat 8 (portNum x)))) s t ∧ OthersKept p s t ∧
      (∀ u : State, u.arb.rotation = t.arb.rotation →
        u.portOrder = if u.settings.rotationOn then t.arb.rotation else [.pa, .pb, .pc]))

/-- SELFTEST with its group and item in range: with the head IDLE the head is SELFTEST, the wait condition NONE, the mailbox
WORKING without an answer, and the first item runs (a frame-store item drops LAST's id and h_eff, an acquisition item asks
for a reference round, the turret item asks for the next station clockwise); in any other head state it is refused BUSY. -/
def Obligations.SelftestBegins : Prop :=
  ∀ (p : Port) (i : TestItem) (rest : List TestItem) (s : State),
    s.posted p 0x0504 = true → selftestParams (s.blockOf p) = some (i :: rest) → s.arb.due = false →
    (s.arb.head ≠ .idle → ∃ t, exec (.selftest p) s = .next t ∧ OnlyAnswered p (refuse .busy) s t) ∧
    (s.arb.head = .idle → (i = .turret → ∃ m, s.turret.state = .parked m ∧ s.act.state = .retracted) →
      ∃ t, exec (.selftest p) s = .next t ∧
        t = { s with
          ports := t.ports, arb := { s.arb with head := .selftest, wait := .none, testFault := false }
          frames := t.frames, acq := t.acq, turret := t.turret, selftest := t.selftest } ∧
        t.mailbox p = { s.mailbox p with state := .working } ∧ OthersKept p s t ∧
        t.selftest.last = s.selftest.last ∧ t.selftest.run.map TestRun.item = some i ∧
        t.selftest.run.map TestRun.todo = some rest ∧ t.selftest.run.map TestRun.port = some p ∧
        ((i = .pattern ∨ i = .address) → t.frames = { s.frames with lastId := none, lastHEff := none } ∧
          t.acq = s.acq ∧ t.turret = s.turret) ∧
        ((i = .force ∨ i = .depth) → t.acq = { s.acq with refRequested := true } ∧ t.frames = s.frames ∧
          t.turret = s.turret) ∧
        (i = .turret → t.frames = s.frames ∧ t.acq = s.acq ∧ ∀ m, s.turret.state = .parked m →
          ∃ r, t.turret.state = .rotating r ∧ r.src = m ∧ r.target = m + 1 ∧ r.dir = .cw ∧ r.req = .selftest ∧
            r.phase = .travel 2240))

/-! ## Ports -/

/-- PORT_CONFIG sets the calling port's mode before the answer is written: a change to PULSE drops the line, gives no pulse
for terms already true and one for the answer itself; a change to LEVEL ends any pulse and the line follows the condition;
the mode the port has already changes nothing but the answer; any other value is BAD_PARAM (R198). -/
def Obligations.PortConfigSetsTheMode : Prop :=
  ∀ (p : Port) (s : State), s.posted p 0x0505 = true →
    (1 < readU (s.blockOf p) 0 1 → ∃ t, exec (.portConfig p) s = .next t ∧ OnlyAnswered p (refuse .badParam) s t) ∧
    (∀ mode, attnModeParam (s.blockOf p) = some mode → ∃ t, exec (.portConfig p) s = .next t ∧
      t = { s with ports := t.ports } ∧ OthersKept p s t ∧ (t.mailbox p).mode = mode ∧
      (t.mailbox p).state = .answered ∧
      (t.mailbox p).response = responseBlock (s.mailbox p) (.ok (u8 (attnModeCode mode))) ∧
      (mode ≠ (s.mailbox p).mode → (t.mailbox p).pulseScheduled = false ∧
        (t.mailbox p).pulseActive = (mode = .pulse)) ∧
      (mode = (s.mailbox p).mode → AnsweredWith p (.ok (u8 (attnModeCode mode))) s t) ∧
      (mode = .level → attnLine t p = attnCondition t p ∧ attnLine t p = true) ∧
      (mode = .pulse → mode ≠ (s.mailbox p).mode → attnLine t p = true))

/-- The control word: POSTED on an EMPTY mailbox stores tag and code, EMPTY on a POSTED one withdraws, EMPTY on an ANSWERED
one acknowledges, and any other write leaves all four bytes. No write changes anything but that mailbox. A withdraw that
comes after the take is ignored: WITHDRAW changes nothing unless the mailbox is POSTED (log entry 10). -/
def Obligations.ControlWordWrites : Prop :=
  ∀ (p : Port) (tag : Byte) (code : Word16) (s : State),
    ((s.mailbox p).state = .empty → ∃ t, exec (.post p tag code) s = .next t ∧ t = { s with ports := t.ports } ∧
      OthersKept p s t ∧ t.mailbox p = { s.mailbox p with state := .posted, tag := tag, code := code }) ∧
    ((s.mailbox p).state = .posted → ∃ t, exec (.withdraw p) s = .next t ∧ t = { s with ports := t.ports } ∧
      OthersKept p s t ∧ t.mailbox p = { s.mailbox p with state := .empty }) ∧
    ((s.mailbox p).state ≠ .posted → exec (.withdraw p) s = .next s) ∧
    ((s.mailbox p).state = .answered → ∃ t, exec (.acknowledge p) s = .next t ∧ t = { s with ports := t.ports } ∧
      OthersKept p s t ∧ t.mailbox p = { s.mailbox p with state := .empty }) ∧
    (∀ b : Byte, ¬ (b = 1 ∧ (s.mailbox p).state = .empty) →
      ¬ (b = 0 ∧ ((s.mailbox p).state = .posted ∨ (s.mailbox p).state = .answered)) →
      exec (.controlWriteIgnored p b tag code) s = .next s)

/-- A write transaction stores the bytes that fall into the command block, each at its place, and drops the rest; a byte of
the control word makes it one control-word write besides. Here: data that stays inside the block, and the posting write of
the control word's four bytes with the parameters behind them. A transaction that is no write, or without a whole address,
changes nothing. In every case the port's transaction is over. -/
def Obligations.WindowWriteStores : Prop :=
  ∀ (p : Port) (s : State), (s.mailbox p).block.length = 252 →
    (∀ (start : Byte) (data : List Byte), 4 ≤ start.toNat → start.toNat + data.length ≤ 256 →
      ∃ t, exec (.windowWrite p (0x10 :: 0 :: start :: data)) s = .next t ∧
        t = { s with ports := t.ports, spi := withPort s.spi p none } ∧
        OthersKept p s t ∧ t.mailbox p = { s.mailbox p with block := (t.mailbox p).block } ∧
        (t.mailbox p).block.length = 252 ∧
        (∀ k, k < 252 → (t.mailbox p).block.getD k 0 =
          if start.toNat ≤ k + 4 ∧ k + 4 < start.toNat + data.length then data.getD (k + 4 - start.toNat) 0
          else (s.mailbox p).block.getD k 0)) ∧
    (∀ (tag lo hi : Byte) (data : List Byte), data.length ≤ 252 → (s.mailbox p).state = .empty →
      ∃ t, exec (.windowWrite p (0x10 :: 0 :: 0 :: 1 :: tag :: lo :: hi :: data)) s = .next t ∧
        t = { s with ports := t.ports, spi := withPort s.spi p none } ∧ OthersKept p s t ∧
        (t.mailbox p).state = .posted ∧
        (t.mailbox p).tag = tag ∧ (t.mailbox p).code.toNat = lo.toNat + 256 * hi.toNat ∧
        (t.mailbox p).block = data ++ (s.mailbox p).block.drop data.length ∧
        (t.mailbox p).response = (s.mailbox p).response) ∧
    (∀ frame : List Byte, (frame.length < 3 ∨ frame.head? ≠ some 0x10) →
      exec (.windowWrite p frame) s = .next { s with spi := withPort s.spi p none })

/-- A read transaction shows one copy of the port's window. The window is 1024 bytes: control word, command block, response
block and status page, whose first items stand at the offsets of R199 (here every region's leading items, and the last
region, which reads 0). A byte at 0x400 or above reads 0. While a transaction is in progress nothing but the transaction
changes; after a whole address a read's data line carries the byte of its start address plus the data bytes so far,
wrapping at 0xFFFF, from the copy taken with the second address byte whatever happens later; any other frame command's
line carries 0. The release is the WINDOW_WRITE of the whole bytes, and RESET drops the transaction. That the line carries
0 in a write is the model's choice (log entry 11), and the order and presence bytes of some items (the granted point's
handle and index, the burst holder, the rotation list) are its reading (log entries 22 and 37). -/
def Obligations.ReadsShowTheWindow : Prop :=
  ∀ (p : Port) (s : State), (s.mailbox p).sized = true →
    let m := s.mailbox p
    let at' : Nat → Nat → List Byte := fun off n => ((window s p).drop off).take n
    let bit : Bool → Nat := Bool.toNat
    (window s p).length = 1024 ∧
    at' 0 4 = u8 (match m.state with | .empty => 0 | .posted => 1 | .working => 2 | .answered => 3) ++ [m.tag]
      ++ u16 m.code.toNat ∧
    at' 4 252 = m.block ∧ at' 0x100 256 = m.response ∧
    at' 0x200 16 = u8 (portNum p) ++ u8 (portNum s.settings.stagePort)
      ++ u8 (match m.mode with | .level => 0 | .pulse => 1)
      ++ u8 (bit (m.state = .answered) + 2 * bit (forPort s.results.untaken p ≠ [])
          + 4 * bit (s.settings.stagePort = p ∧ s.pendingOrder ≠ none) + 8 * bit (s.arb.head = .halted))
      ++ u8 (bit s.pins.stopLine) ++ List.replicate 11 0 ∧
    at' 0x210 2 = u8 (match s.arb.head with
        | .unready => 0 | .idle => 1 | .busy => 2 | .selftest => 3 | .halted => 4 | .recovering => 5)
      ++ u8 (match s.arb.wait with | .none => 0 | .noWork => 1 | .waitResults => 2) ∧
    (∀ g, s.grantedPoint = some g → at' 0x212 5 = u8 1 ++ u8 (s.handle g.slot).toNat ++ u8 1 ++ u16 g.index) ∧
    (s.grantedPoint = none → at' 0x212 5 = List.replicate 5 0) ∧
    (∀ h, s.arb.holder = some h → at' 0x217 3 = u8 1 ++ [h] ++ u8 s.arb.burst) ∧
    (s.arb.rotation.length = 3 →
      at' 0x21A 4 = s.arb.rotation.map (fun x => BitVec.ofNat 8 (portNum x)) ++ u8 (1 - bit s.settings.rotationOn)) ∧
    (∀ i : Slot, at' (0x240 + 2 * i.val) 2 = match (s.slot i).job with
      | none => [0, 0]
      | some j => u8 (1 + portNum j.owner) ++ u8 (bit (s.eligible i) + 2 * bit j.held + 4 * bit (s.starved i)
          + 8 * bit j.cancelling)) ∧
    at' 0x261 1 = u8 (bit s.cycle.pendStage + 2 * bit s.cycle.pendTurret + 4 * bit s.cycle.pendActuator) ∧
    (s.settings.stagePort ≠ p → at' 0x270 16 = List.replicate 16 0) ∧
    (∀ o, s.settings.stagePort = p → s.pendingOrder = some o →
      at' 0x270 11 = [o.seq] ++ u8 (match o.kind with | .indentPos => 0 | .viewPos => 1) ++ i32 o.x ++ i32 o.y ++ u8 1) ∧
    (∀ n, s.turret.state = .parked n → at' 0x280 3 = u8 2 ++ u8 1 ++ u8 n.val) ∧
    at' 0x2A0 5 = i16 s.acq.rawForce ++ i16 s.acq.rawDepth ++ u8 (bit s.acq.saturated) ∧
    at' 0x300 1 = u8 (match s.cap.state with
      | .idle => 0 | .waiting => 1 | .exposing => 2 | .receiving => 3 | .discarding => 4) ∧
    at' 0x340 1 = u8 (bit s.meas.run.isSome) ∧
    at' 0x380 2 = u8 s.results.free ++ u8 s.results.reserved ∧
    at' 0x382 6 = u8 s.results.untaken.a.length ++ u8 s.results.taken.a.length ++ u8 s.results.untaken.b.length
      ++ u8 s.results.taken.b.length ++ u8 s.results.untaken.c.length ++ u8 s.results.taken.c.length ∧
    at' 0x3A0 1 = u8 (bit s.selftest.run.isSome) ∧ at' 0x3C0 64 = List.replicate 64 0 ∧
    (∀ start n k, k < n → (spiRead s p start n).length = n ∧
      (spiRead s p start n).getD k 0 = (window s p).getD ((start + k) % 65536) 0 ∧
      (0x400 ≤ (start + k) % 65536 → (spiRead s p start n).getD k 0 = 0)) ∧
    (∀ (cmd hi lo : Byte) (data : List Byte),
      let frame := cmd :: hi :: lo :: data
      let u := frame.foldl (fun v b => spiByte p b v) (spiSelect p s)
      u = { s with spi := u.spi } ∧ (∀ q, q ≠ p → forPort u.spi q = forPort s.spi q) ∧
      spiRelease u p = some (.windowWrite p frame) ∧
      (∀ v : State, forPort v.spi p = forPort u.spi p → spiLine v p =
        if cmd = 0x11 then (window s p).getD ((256 * hi.toNat + lo.toNat + data.length) % 65536) 0 else 0) ∧
      (∃ v, exec .reset u = .next v ∧ spiRelease v p = none ∧ ∀ b, spiByte p b v = v))

/-- A pulse that ends leaves the line inactive and a scheduled pulse scheduled; the scheduled one then starts.
STOP_LINE_RELEASE changes the level of the STOP line and nothing else. That events on a pulse that is not there change
nothing is the model's choice (log entry 3). -/
def Obligations.LinesEndAndStart : Prop :=
  ∀ (p : Port) (s : State),
    exec .stopLineRelease s = .next { s with pins := { s.pins with stopLine := false } } ∧
    ((s.mailbox p).pulseActive = true → ∃ t, exec (.attnPulseEnd p) s = .next t ∧ t = { s with ports := t.ports } ∧
      OthersKept p s t ∧ t.mailbox p = { s.mailbox p with pulseActive := false }) ∧
    ((s.mailbox p).pulseScheduled = true → (s.mailbox p).pulseActive = false →
      ∃ t, exec (.attnPulseStart p) s = .next t ∧ t = { s with ports := t.ports } ∧ OthersKept p s t ∧
        t.mailbox p = { s.mailbox p with pulseActive := true, pulseScheduled := false }) ∧
    ((s.mailbox p).pulseActive = false → exec (.attnPulseEnd p) s = .next s) ∧
    ((s.mailbox p).pulseScheduled = false → exec (.attnPulseStart p) s = .next s)

/-! ## Reset and the pins -/

/-- RESET: every block at its reset state, with the pins, the queue and the model's counter kept (log entries 5 and 17). A
top limit that reads active makes the actuator RETRACTED and the turret HOMING at once; an asserted STOP line is a STOP
taken in UNREADY, which halts the head and leaves the turret UNKNOWN. -/
def Obligations.ResetClears : Prop :=
  ∀ s : State, exec .reset s = .next { State.reset with
    pending := s.pending, pins := s.pins, freeCount := s.freeCount
    act := if s.pins.topLimit then { State.reset.act with state := .retracted, stallTimer := false, requester := none }
      else State.reset.act
    turret := if s.pins.topLimit ∧ ¬ s.pins.stopLine then
        { State.reset.turret with state := .homing { phase := .search (!s.pins.sensor), searched := 0 } }
      else State.reset.turret
    arb := if s.pins.stopLine then
        { State.reset.arb with
          head := .halted
          first := some { code := .stop, sub := none, head := .unready, point := none }
          last := some { code := .stop, sub := none, head := .unready, point := none } }
      else State.reset.arb }

/-- The top limit: a RETRACTING actuator becomes RETRACTED and, retracted for the arbiter in start-up or recovery, has the
turret HOMING; one in another state stays. Its loss sends a RETRACTED actuator back to RETRACTING unless the turret moves. -/
def Obligations.TopLimitMovesTheActuator : Prop :=
  ∀ s : State, s.arb.due = false →
    (s.act.state = .retracting → s.act.held = none → s.turret.moving = false →
      (s.act.requester = none → exec .topLimitActive s = .next { s with
        pins := { s.pins with topLimit := true }, act := { s.act with state := .retracted, stallTimer := false } }) ∧
      (∀ a, s.act.requester = some (.arbiter, a) → (s.arb.head = .unready ∨ s.arb.head = .recovering) →
        exec .topLimitActive s = .next { s with
          pins := { s.pins with topLimit := true }
          act := { s.act with state := .retracted, stallTimer := false, requester := none }
          turret := { s.turret with
            state := .homing { phase := .search (!s.pins.sensor), searched := 0 }, gated := 0 } })) ∧
    (s.act.state ≠ .retracting →
      exec .topLimitActive s = .next { s with pins := { s.pins with topLimit := true } }) ∧
    exec .topLimitLost s = .next { s with
      pins := { s.pins with topLimit := false }
      act := if s.act.state = .retracted ∧ s.turret.moving = false then
          { s.act with state := .retracting, stallTimer := true, requester := none }
        else s.act }

/-- The retracted report at the end of an indent starts VIEWING: the VIEW_POS order stands at the point plus the objective's
offset, the settle timer runs, the stage port's ORDER term is raised, and the turret turns to the objective unless it is
PARKED there already. That the gated count is 0 from the rotation's acceptance on is the model's reading (log entry 34). -/
def Obligations.RetractedAfterTheIndentStartsViewing : Prop :=
  ∀ (g : Granted) (n m : Station) (o : Objective) (a : Asked) (s : State),
    s.act.state = .retracting → s.act.requester = some (.cycle, a) → s.act.held = none →
    s.cycle.state = .indenting → s.cycle.pendTurret = false → s.cycle.granted = some g → s.cycle.objective = some n →
    s.station n = .objective o → s.turret.state = .parked m → s.arb.due = false →
    exec .topLimitActive s = .next { s with
      ports := (raiseTerm s.settings.stagePort s).ports
      pins := { s.pins with topLimit := true }
      act := { s.act with state := .retracted, stallTimer := false, requester := none }
      stage := {
        lastSeq := s.stage.lastSeq + 1, settleTimer := true
        order := some {
          seq := s.stage.lastSeq + 1, kind := .viewPos, x := g.x + o.dx, y := g.y + o.dy, status := .pending } }
      cycle := { s.cycle with state := .viewing, pendActuator := false, pendStage := true, pendTurret := decide (m ≠ n) }
      turret := if m = n then s.turret
        else { s.turret with gated := 0, state := .rotating {
          src := m, target := n, req := .cycle, pos := 2400 * m.val
          dir := if (n.val + 6 - m.val) % 6 ≤ 3 then .cw else .ccw
          phase := .travel (if (n.val + 6 - m.val) % 6 ≤ 3 then 2400 * ((n.val + 6 - m.val) % 6) - 160
            else 2400 * (6 - (n.val + 6 - m.val) % 6) + 160) } } }

/-! ## The turret -/

/-- A step is counted by the motion in progress, and the sensor is read at it: TRAVEL counts down and moves with its
direction, the STROKE moves clockwise and counts the active positions, SEARCH waits for an inactive reading and then for a mark, MARK counts the mark and at
its end identifies the station, PLACE moves clockwise. With no motion in progress the step is dropped (R67), and so is a step
asked for before a RESET, also when that RESET has started a homing (R66): it changes the pin's level and no reading. That the
report tells such a step, that the pin has the level it reports, and that a step beyond the last one of TRAVEL or of the
stroke is not counted and not read, is the model's reading (log entries 6, 7 and 35). -/
def Obligations.StepsAreCounted : Prop :=
  ∀ (sensor : Bool) (s : State),
    (∀ r left, s.turret.state = .rotating r → r.phase = .travel (left + 1) →
      exec (.stepReported { sensor := sensor }) s = .next { s with
        pins := { s.pins with sensor := sensor }
        turret := { s.turret with state := .rotating { r with
          phase := .travel left, pos := if r.dir = .cw then (r.pos + 1) % 14400 else (r.pos + 14399) % 14400
          reading := sensor } } }) ∧
    (∀ r, s.turret.state = .rotating r → (r.phase = .travel 0 ∨ ∃ clear, r.phase = .stroke 160 clear) →
      exec (.stepReported { sensor := sensor }) s = .next { s with pins := { s.pins with sensor := sensor } }) ∧
    (∀ r done clear, s.turret.state = .rotating r → r.phase = .stroke done clear → done < 160 →
      exec (.stepReported { sensor := sensor }) s = .next { s with
        pins := { s.pins with sensor := sensor }
        turret := { s.turret with
          state := .rotating { r with
            phase := .stroke (done + 1) clear, pos := (r.pos + 1) % 14400, reading := sensor }
          gated := s.turret.gated + sensor.toNat } }) ∧
    (∀ h seen, s.turret.state = .homing h → h.phase = .search seen → h.searched < 18000 →
      exec (.stepReported { sensor := sensor }) s = .next { s with
        pins := { s.pins with sensor := sensor }
        turret := { s.turret with
          state := .homing { phase := if seen ∧ sensor then .mark else .search (seen || !sensor), searched := h.searched + 1 }
          gated := if seen ∧ sensor then 1 else s.turret.gated } }) ∧
    (∀ h, s.turret.state = .homing h → h.phase = .mark → h.searched < 18000 →
      (sensor = true → exec (.stepReported { sensor := sensor }) s = .next { s with
        pins := { s.pins with sensor := sensor }
        turret := { s.turret with
          state := .homing { phase := .mark, searched := h.searched + 1 }, gated := s.turret.gated + 1 } }) ∧
      (sensor = false → ∀ n : Station, s.turret.gated ≤ 25 + 16 * n.val → 15 + 16 * n.val ≤ s.turret.gated →
        exec (.stepReported { sensor := sensor }) s = .next { s with
          pins := { s.pins with sensor := sensor }
          turret := { s.turret with
            state := .homing { phase := .place n 0 ((2400 * n.val + 14380) % 14400), searched := h.searched + 1 }
            lastMark := some (s.turret.gated, some n) } })) ∧
    (∀ h n done pos, s.turret.state = .homing h → h.phase = .place n done pos → done < 20 →
      exec (.stepReported { sensor := sensor }) s = .next { s with
        pins := { s.pins with sensor := sensor }
        turret := { s.turret with
          state := .homing { phase := .place n (done + 1) ((pos + 1) % 14400), searched := h.searched + 1 } } }) ∧
    (∀ late, late = true ∨ s.turret.moving = false →
      exec (.stepReported { sensor := sensor, late := late }) s = .next { s with pins := { s.pins with sensor := sensor } })

/-- TRAVEL_END after the last TRAVEL step starts the stroke: the gated count is 0 and the sensor's reading at the last
counted step, the stroke start, is kept. STROKE_END after the 160th step with the three checks passed parks the turret at the target, tells the
cycle controller, and changes nothing else while the move order is PENDING. That TRAVEL_END before the last TRAVEL step
changes nothing is the model's choice (log entry 3). -/
def Obligations.TravelAndStrokeEnd : Prop :=
  ∀ (r : Rotation) (s : State), s.turret.state = .rotating r →
    (r.phase = .travel 0 → exec .travelEnd s = .next { s with
      turret := { s.turret with state := .rotating { r with phase := .stroke 0 (!r.reading) }, gated := 0 } }) ∧
    (r.phase ≠ .travel 0 → exec .travelEnd s = .next s) ∧
    (r.phase = .stroke 160 true → r.reading = false → s.turret.gated ≤ 25 + 16 * r.target.val →
      15 + 16 * r.target.val ≤ s.turret.gated → r.req = .cycle →
      (s.cycle.state = .positioning ∨ s.cycle.state = .viewing) → s.cycle.pendStage = true →
      s.act.state = .retracted → s.act.held = none → s.pins.topLimit = true → s.arb.due = false →
      exec .strokeEnd s = .next { s with
        turret := { s.turret with state := .parked r.target, lastMark := some (s.turret.gated, some r.target) }
        cycle := { s.cycle with pendTurret := false } })

/-- A rotation of the cycle fails in POSITIONING, by the rotation timer or by a check at the end of the stroke: the turret
is in FAULT with its sub-reason, TURRET_FAULT is recorded, the order is withdrawn, and the point ends at once with a
TURRET_FAULT record that carries no value, last on its owner's untaken list; the head is HALTED. Here the job stays in
the table. -/
def Obligations.RotationFailureEndsThePoint : Prop :=
  ∀ (c : Instr) (sub : SubReason) (r : Rotation) (g : Granted) (j : Job) (o : Order) (s : State),
    s.turret.state = .rotating r → r.req = .cycle →
    ((c = .rotationTimeout ∧ sub = .rotationTimeout) ∨
      (c = .strokeEnd ∧ sub = .markMismatch ∧ ∃ clear, r.phase = .stroke 160 clear ∧
        (clear = false ∨ r.reading = true ∨ 25 + 16 * r.target.val < s.turret.gated ∨
          s.turret.gated < 15 + 16 * r.target.val))) →
    s.arb.head = .busy → s.cycle.state = .positioning → s.cycle.contactMade = false → s.cycle.known = {} →
    s.cycleJob = some (g, j) → s.pendingOrder = some o → s.act.state = .retracted → s.act.held = none →
    s.pins.topLimit = true → s.cap.state = .idle → s.meas.run = none → s.arb.due = false →
    s.pendingOf g.slot ≠ [] →
    ∃ t, exec c s = .next t ∧
      t = { s with
        ports := t.ports, arb := t.arb, cycle := {}, stage := t.stage, turret := t.turret, points := t.points
        jobs := t.jobs, results := t.results, verif := t.verif } ∧
      t.turret.state = .fault ∧ t.turret.lastSub = some sub ∧ t.turret.gated = s.turret.gated ∧
      t.turret.lastMark = (if c = .strokeEnd then some (s.turret.gated, some r.target) else s.turret.lastMark) ∧
      t.stage = { s.stage with order := some { o with status := .withdrawn }, settleTimer := false } ∧
      t.arb.head = .halted ∧ t.arb.holder = none ∧ t.arb.burst = 0 ∧ t.arb.rotation = s.arb.rotation ∧
      t.arb.last = some {
        code := .turretFault, sub := some sub, head := .busy
        point := s.grantedPoint.map fun q => (s.handle q.slot, q.index) } ∧
      t.points = s.points.filter (fun q => !(q.slot = g.slot && q.state = .granted)) ∧
      t.slot g.slot = { s.slot g.slot with job := some { j with failed := j.failed + 1 } } ∧
      (∀ k, k ≠ g.slot → t.slot k = s.slot k) ∧
      forPort t.results.untaken j.owner = forPort s.results.untaken j.owner ++ [{
        id := s.newRecordId, port := j.owner, handle := g.handle, kind := j.params.kind, specimen := j.params.specimen
        status := .turretFault
        body := .point {
          index := g.index, tag := g.tag, x := g.x, y := g.y, objective := s.cycle.objective.getD j.params.objective
          flags := {
            fallback := s.cycle.fallbackUsed, retry := s.cycle.retryUsed
            unverified := isUnverified s.verif j.params.indenter j.params.force }
          force := none, dwellTime := none, depth := none, diags := none, hardness := none, secondary := none
          imageId := none } }] ∧
      t.results.reserved = s.results.reserved - 1 ∧ t.results.counter = s.newRecordId

/-- A homing ends in start-up or recovery. HOMING_PLACED after the 20th placement step: the turret is PARKED at the station
identified, the head is IDLE, a recovery clears the faults, and the decision finds no work or no FREE slot. NO_MARK after
18 000 steps and the homing timer: the turret is in FAULT with the sub-reason, HOME_FAIL is recorded, and the head is
HALTED with the HALTED term raised on every port. -/
def Obligations.HomingEnds : Prop :=
  ∀ (h : Homing) (s : State),
    s.turret.state = .homing h → (s.arb.head = .unready ∨ s.arb.head = .recovering) →
    s.act.state = .retracted → s.act.held = none → s.pins.topLimit = true → s.arb.due = false →
    (∀ n pos, h.phase = .place n 20 pos → (s.eligibleSlots = [] ∨ s.results.free = 0) →
      exec .homingPlaced s = .next { s with
        turret := { s.turret with state := .parked n }
        arb := { s.arb with
          head := .idle
          wait := if s.eligibleSlots = [] then .noWork else .waitResults
          first := if s.arb.head = .recovering then none else s.arb.first
          last := if s.arb.head = .recovering then none else s.arb.last } }) ∧
    (∀ c sub, ((c = Instr.noMark ∧ sub = SubReason.noMark ∧ 18000 ≤ h.searched ∧
          (h.phase = .mark ∨ ∃ b, h.phase = .search b)) ∨
        (c = .homeTimeout ∧ sub = .homeTimeout)) →
      ∃ t f, exec c s = .next t ∧
        f = { code := .homeFail, sub := some sub, head := s.arb.head
              point := s.grantedPoint.map fun q => (s.handle q.slot, q.index) } ∧
        t = { s with
          ports := ⟨pulsed s.ports.a, pulsed s.ports.b, pulsed s.ports.c⟩
          turret := { s.turret with state := .fault, lastSub := some sub }
          arb := { s.arb with
            head := .halted, wait := .none, holder := none, burst := 0, first := some (s.arb.first.getD f)
            last := some f } })

/-! ## Acquisition and the actuator -/

/-- A normal round with its N force samples publishes its readings together while no reading event reaches the actuator: the
raw means, the saturation, the force of the curve, the depth of the scale, the round counter, and the next round's
settings and reference. A round with another number of samples (log entry 31, the model's choice), or a normal round's end
in a reference round (log entry 3), is dropped. -/
def Obligations.RoundEndPublishes : Prop :=
  ∀ (codes : List Word16) (code : Word16) (s : State), s.arb.due = false →
    (s.acq.refSwitched = false → codes.length = s.acq.round.n → codes ≠ [] →
      (s.act.state = .retracted ∨ s.act.state = .retracting ∨ s.act.state = .stalled) →
      exec (.roundEnd codes code) s = .next { s with acq := {
        rawForce := (2 * (codes.map BitVec.toInt).sum + codes.length) / (2 * codes.length)
        rawDepth := code.toInt
        saturated := decide (code.toInt = -32768 ∨ code.toInt = 32767)
        force := forceReading s.cal.curve ((2 * (codes.map BitVec.toInt).sum + codes.length) / (2 * codes.length))
        depth := if s.cal.depthScale = 0 then none
          else some ((2 * ((code.toInt - s.cal.depthZero) * s.cal.depthScale) + 256) / 512)
        rounds := s.acq.rounds + 1
        refSwitched := s.acq.refRequested, refRequested := false, round := s.settings.round } }) ∧
    ((s.acq.refSwitched = true ∨ codes.length ≠ s.acq.round.n) → exec (.roundEnd codes code) s = .next s)

/-- A table of points with strictly rising first coordinates, as the force curve and the conversion table are, is met at
every one of its points, and lies on the line of its first two points below the first and of its last two above the
last. -/
def Obligations.TablesPassThroughTheirPoints : Prop :=
  ∀ pts : List (Int × Int), 2 ≤ pts.length → pts.Pairwise (fun p q => p.1 < q.1) →
    (∀ p ∈ pts, onTable p.1 pts = p.2) ∧
    (∀ p q rest m, pts = p :: q :: rest → m < p.1 →
      onTable m pts = p.2 + roundHalfUp ((m - p.1) * (q.2 - p.2)) (q.1 - p.1)) ∧
    (∀ init p q m, pts = init ++ [p, q] → q.1 < m →
      onTable m pts = p.2 + roundHalfUp ((m - p.1) * (q.2 - p.2)) (q.1 - p.1))

/-- The readings of a cycle: a round whose tared force F reaches the contact threshold below the entry band makes contact;
one in the entry band of LOADING starts the dwell; one within the stability limits of DWELLING is counted. A reading in
APPROACHING that makes no contact leaves the actuator as it is, or, past the travel limit or with the depth saturated, fails
the cycle NO_CONTACT: the actuator is RETRACTING with its stall timer running and the cycle CLEARING. A reading whose force
is absent makes no contact, and an absent depth passes no limit (the model's reading, log entry 38). -/
def Obligations.RoundsDriveTheIndent : Prop :=
  ∀ (codes : List Word16) (code : Word16) (p : IndentParams) (s : State),
    s.arb.due = false → s.acq.refSwitched = false → codes.length = s.acq.round.n → codes ≠ [] →
    s.act.params = some p → s.cycle.state = .indenting →
    (∀ raw f : Int, forceReading s.cal.curve (rawMean codes) = some raw → f = raw - s.act.tare →
      f * 10 ≤ 11 * p.force → f * 10 ≤ 11 * p.maxForce →
      ((s.act.state = .approaching ∧ p.threshold ≤ f ∧ p.force < (f - p.force).natAbs * 100) ∨ s.act.state = .loading ∨
        (s.act.state = .dwelling ∧ (f - p.force).natAbs * 50 ≤ p.force)) →
      ∃ t, exec (.roundEnd codes code) s = .next t ∧
        t = { s with acq := t.acq, act := t.act, cycle := t.cycle } ∧
        t.acq.force = some raw ∧ t.acq.rounds = s.acq.rounds + 1 ∧
        (s.act.state = .approaching →
          t.act = { s.act with
            state := .loading, contactMade := true, contactForce := some f, contactDepth := t.acq.depth, target := some f
            loadTimer := true, rampMs := 0 } ∧
          t.cycle = { s.cycle with contactMade := true }) ∧
        (s.act.state = .loading →
          t.cycle = s.cycle ∧
          ((f - p.force).natAbs * 100 ≤ p.force → t.act = { s.act with
            state := .dwelling, target := some p.force, dwellSum := f, dwellCount := 1, loadTimer := false
            dwellTimer := true, dwellMs := 0 }) ∧
          (p.force < (f - p.force).natAbs * 100 → t.act = s.act)) ∧
        (s.act.state = .dwelling →
          t.cycle = s.cycle ∧
          t.act = { s.act with dwellSum := s.act.dwellSum + f, dwellCount := s.act.dwellCount + 1 })) ∧
    (s.act.state = .approaching →
      (∀ raw, forceReading s.cal.curve (rawMean codes) = some raw → raw - s.act.tare < p.threshold) →
      let depth := depthReading s.cal.depthZero s.cal.depthScale code.toInt
      let past : Prop := (∃ r d, s.act.refDepth = some r ∧ depth = some d ∧ p.travel * 1000 < d - r) ∨
        code.toInt = -32768 ∨ code.toInt = 32767
      (¬ past → ∃ t, exec (.roundEnd codes code) s = .next t ∧ t = { s with acq := t.acq } ∧
        t.acq.depth = depth ∧ t.acq.rounds = s.acq.rounds + 1) ∧
      (past → s.act.contactMade = false → s.pins.topLimit = false → s.cycle.pendActuator = true →
        ∃ t, exec (.roundEnd codes code) s = .next t ∧
          t = { s with acq := t.acq, act := t.act, cycle := t.cycle, stage := t.stage, cap := t.cap, meas := t.meas } ∧
          WorkDropped s t ∧ t.acq.depth = depth ∧ t.acq.rounds = s.acq.rounds + 1 ∧
          t.act = { s.act with
            state := .retracting, lastFailure := some .noContact, stallTimer := true, loadTimer := false
            dwellTimer := false } ∧
          t.cycle = { s.cycle with
            state := .clearing, outcome := some .noContact, pendStage := false
            pendTurret := s.cycle.pendTurret && s.turret.rotating }))

/-- The actuator's timers. The dwell timer in DWELLING: mean force (rounded half up), dwell time and penetration are produced
and known to the cycle, and the actuator is UNLOADING. The load timer in LOADING: the actuator is UNLOADING, the point
fails with LOAD_TIMEOUT, the cycle is CLEARING and waits for it, the depth reached is known. The stall timer in start-up
or recovery: the actuator is STALLED, ACTUATOR_STALL is recorded and the head is HALTED. -/
def Obligations.ActuatorTimersExpire : Prop :=
  ∀ s : State, s.arb.due = false →
    (∀ p c d, s.act.state = .dwelling → s.act.dwellTimer = true → s.act.params = some p → s.act.contactMade = true →
      s.act.contactDepth = some c → s.acq.depth = some d → s.cycle.state = .indenting →
      let mean : Int := (2 * s.act.dwellSum + s.act.dwellCount) / (2 * s.act.dwellCount)
      exec .dwellDone s = .next { s with
        act := { s.act with
          state := .unloading, stallTimer := true, loadTimer := false, dwellTimer := false
          dwellMean := some mean, dwellTime := some (p.dwell * 100), dwellMs := p.dwell * 100
          penetration := some (max 0 (d - c)) }
        cycle := { s.cycle with
          known := { s.cycle.known with
            force := some mean, dwellTime := some (p.dwell * 100), depth := some (max 0 (d - c)) } } }) ∧
    (∀ c d, s.act.state = .loading → s.act.loadTimer = true → s.act.contactMade = true → s.act.contactDepth = some c →
      s.acq.depth = some d → s.cycle.state = .indenting → s.cycle.pendActuator = true → s.cycle.pendTurret = false →
      s.pendingOrder = none → s.cap.state = .idle → s.meas.run = none →
      exec .loadTimeout s = .next { s with
        act := { s.act with
          state := .unloading, stallTimer := true, loadTimer := false, dwellTimer := false
          lastFailure := some .loadTimeout }
        cycle := { s.cycle with
          state := .clearing, outcome := some .loadTimeout, pendStage := false
          known := { s.cycle.known with depth := some (max 0 (d - c)) } } }) ∧
    (∀ a, (s.act.state = .unloading ∨ s.act.state = .retracting) → s.act.stallTimer = true →
      s.act.requester = some (.arbiter, a) → s.act.held = none → (s.arb.head = .unready ∨ s.arb.head = .recovering) →
      ∃ t f, exec .stallTimerExpiry s = .next t ∧
        f = { code := .actuatorStall, sub := none, head := s.arb.head
              point := s.grantedPoint.map fun q => (s.handle q.slot, q.index) } ∧
        t = { s with
          ports := ⟨pulsed s.ports.a, pulsed s.ports.b, pulsed s.ports.c⟩
          act := { s.act with state := .stalled, stallTimer := false, requester := none }
          arb := { s.arb with
            head := .halted, wait := .none, holder := none, burst := 0, first := some (s.arb.first.getD f)
            last := some f } })

/-! ## Self-test items -/

/-- The reference round of the last item: nothing is published and a normal round follows. A code within 256 of the expected
one passes the test (answered PASSED, head IDLE, no work or no slot); another fails it (SELFTEST_FAIL, head HALTED,
answered FAILED with the item, REFERENCE_RANGE, location 0, the code expected and the code read). -/
def Obligations.ReferenceRoundIsJudged : Prop :=
  ∀ (codes : List Word16) (depth : Word16) (r : TestRun) (expected code : Int) (s : State),
    s.acq.refSwitched = true → codes.length = s.acq.round.n → codes ≠ [] → s.selftest.run = some r → r.todo = [] →
    ((r.item = .force ∧ expected = 16384 ∧ code = rawMean codes) ∨
      (r.item = .depth ∧ expected = -16384 ∧ code = depth.toInt)) →
    s.arb.head = .selftest → s.arb.testFault = false → (s.mailbox r.port).state = .working → s.arb.due = false →
    (s.eligibleSlots = [] ∨ s.results.free = 0 ∨ 256 < (code - expected).natAbs) →
    ∃ t, exec (.referenceRoundEnd codes depth) s = .next t ∧
      t = { s with ports := t.ports, acq := t.acq, selftest := t.selftest, arb := t.arb } ∧
      t.acq = { s.acq with round := s.settings.round, refSwitched := s.acq.refRequested, refRequested := false } ∧
      t.selftest.run = none ∧
      ((code - expected).natAbs ≤ 256 →
        t.selftest.last = some .passed ∧
        t.arb = { s.arb with head := .idle, wait := if s.eligibleSlots = [] then .noWork else .waitResults } ∧
        AnsweredWith r.port (.ok (u8 0 ++ u8 (r.done + 1))) s t ∧ OthersKept r.port s t) ∧
      (256 < (code - expected).natAbs →
        t.selftest.last = some (.failed r.item .referenceRange 0 expected code) ∧
        t.arb.head = .halted ∧ t.arb.last.map FaultRecord.code = some .selftestFail ∧
        ToldWith r.port (.ok (u8 1 ++ itemBytes r.item ++ u8 11 ++ u32 0 ++ i32 expected ++ i32 code)) s t)

/-- A frame-store item ends. Passed, every byte of both buffers holds its last value (255 after the pattern item, 0 after the
address item); as the last item the test is answered PASSED, and before another frame-store or acquisition item that item
starts. With a byte that did not read back as written, the item fails with PATTERN_MISMATCH or ADDRESS_ALIAS, the location
of that byte (a free packing, log entry 13), the value written and the value read; the head is HALTED with SELFTEST_FAIL,
and the buffers hold what the failing step wrote but for that byte, which holds what it read (log entry 16). -/
def Obligations.FrameStoreItemEnds : Prop :=
  ∀ (r : TestRun) (s : State),
    s.selftest.run = some r → (r.item = .pattern ∨ r.item = .address) → s.arb.head = .selftest →
    s.arb.testFault = false → (s.mailbox r.port).state = .working → s.arb.due = false →
    (r.todo = [] → (s.eligibleSlots = [] ∨ s.results.free = 0) →
      ∃ t, exec (.framestoreItemEnd none) s = .next t ∧
        t = { s with ports := t.ports, frames := t.frames, selftest := t.selftest, arb := t.arb } ∧
        t.frames = { s.frames with mem := t.frames.mem } ∧
        (∀ a, a < 1843200 → Memory.read t.frames.mem a = if r.item = .pattern then 255 else 0) ∧
        t.selftest.run = none ∧ t.selftest.last = some .passed ∧
        t.arb = { s.arb with head := .idle, wait := if s.eligibleSlots = [] then .noWork else .waitResults } ∧
        AnsweredWith r.port (.ok (u8 0 ++ u8 (r.done + 1))) s t ∧ OthersKept r.port s t) ∧
    (∀ next rest, r.todo = next :: rest → next ≠ .turret →
      ∃ t, exec (.framestoreItemEnd none) s = .next t ∧
        t = { s with
          frames := t.frames, acq := t.acq
          selftest := { s.selftest with
            run := some { r with item := next, todo := rest, done := r.done + 1, visits := 6 } } } ∧
        (∀ a, a < 1843200 → Memory.read t.frames.mem a = if r.item = .pattern then 255 else 0) ∧
        ((next = .pattern ∨ next = .address) → t.acq = s.acq ∧
          t.frames = { s.frames with mem := t.frames.mem, lastId := none, lastHEff := none }) ∧
        ((next = .force ∨ next = .depth) → t.acq = { s.acq with refRequested := true } ∧
          t.frames = { s.frames with mem := t.frames.mem })) ∧
    (∀ b : BadByte,
      let fill : Byte := match b.fill.val with
        | 0 => 85 | 1 => 170 | 2 => 0 | _ => 255
      let written : Nat → Byte := fun a =>
        if r.item = .pattern then fill else BitVec.ofNat 8 (a % 960 + 7 * (a % 921600 / 960) + 131 * (a / 921600))
      let place := 921600 * b.buffer.val + 960 * b.row.val + b.col.val
      let w := Config.locationWord b.buffer.val b.row.val b.col.val
      b.read ≠ written place →
      ∃ t, exec (.framestoreItemEnd (some b)) s = .next t ∧
        t = { s with ports := t.ports, frames := t.frames, selftest := t.selftest, arb := t.arb } ∧
        t.frames = { s.frames with mem := t.frames.mem } ∧
        (∀ a, a < 1843200 → Memory.read t.frames.mem a = if a = place then b.read else written a) ∧
        t.selftest.run = none ∧
        t.selftest.last = some (.failed r.item (if r.item = .pattern then .patternMismatch else .addressAlias) w
          ((written place).toNat : Int) (b.read.toNat : Int)) ∧
        t.arb = { s.arb with
          head := .halted, wait := .none, holder := none, burst := 0, first := t.arb.first, last := t.arb.last } ∧
        t.arb.last.map FaultRecord.code = some .selftestFail ∧
        ToldWith r.port (.ok (u8 1 ++ u8 1 ++ u8 (if r.item = .pattern then 1 else 2)
          ++ u8 (if r.item = .pattern then 9 else 10) ++ u32 w.toNat ++ i32 (written place).toNat
          ++ i32 b.read.toNat)) s t)

/-! ## Capture and measurement -/

/-- The items of the link in RECEIVING, and the exposure's end before them: the trigger falls with the light, a pixel value
joins its line, a value out of range, a value with the line count at 1024 (LONG_FRAME) and a wrong length or sum are
corruptions noted with the line count, after which the frame is discarded; a value that is both out of range and too late
is noted as one of the two, a free value (log entry 12). A complete line counts, and inside the ROI its pixels go into WORK,
reduced, byte by byte, in exposure B the smaller of that byte and the one A left there; every other byte stays. -/
def Obligations.LinkItemsAreTaken : Prop :=
  ∀ (q : CapRequest) (roi : Roi) (s : State),
    (s.cap.state = .exposing → exec .exposureEnd s = .next { s with cap := { s.cap with state := .receiving, lit := [] } }) ∧
    (s.cap.state = .receiving → s.cap.request = some q → s.cap.roi = some roi →
      (∀ v, s.cap.lineCount ≠ 1024 → exec (.pixelValue v) s = .next { s with
        cap := if (match q.camera with | .bits8 => 255 | .bits10 => 1023) < v then
            { s.cap with state := .discarding, line := [], lastDetail := some (.pixelRange, s.cap.lineCount) }
          else { s.cap with line := s.cap.line ++ [v] } }) ∧
      (∀ v, s.cap.lineCount = 1024 → ∃ k, exec (.pixelValue v) s = .next { s with
          cap := { s.cap with state := .discarding, line := [], lastDetail := some (k, 1024) } } ∧
        (k = .longFrame ∨ (k = .pixelRange ∧ (match q.camera with | .bits8 => 255 | .bits10 => 1023) < v))) ∧
      (∀ w, s.cap.line.length ≠ 1280 → exec (.lineSumWord w) s = .next { s with
        cap := { s.cap with state := .discarding, line := [], lastDetail := some (.lineLength, s.cap.lineCount) } }) ∧
      (∀ w : Word16, s.cap.line.length = 1280 → s.cap.line.sum % 65536 ≠ w.toNat →
        exec (.lineSumWord w) s = .next { s with
          cap := { s.cap with state := .discarding, line := [], lastDetail := some (.sumMismatch, s.cap.lineCount) } }) ∧
      (∀ w : Word16, s.cap.line.length = 1280 → s.cap.line.sum % 65536 = w.toNat →
        roi.col0 + 2 * roi.hEff ≤ 1280 →
        ∃ t, exec (.lineSumWord w) s = .next t ∧
          t = { s with cap := { s.cap with lineCount := s.cap.lineCount + 1, line := [] }, frames := t.frames } ∧
          t.frames = { s.frames with mem := t.frames.mem } ∧
          ∀ a, Memory.read t.frames.mem a =
            let first := frameAddr s.frames.work.val (s.cap.lineCount - roi.row0) 0
            if roi.row0 ≤ s.cap.lineCount ∧ s.cap.lineCount < roi.row0 + 2 * roi.hEff ∧ first ≤ a ∧
                a < first + 2 * roi.hEff then
              let px := reducePixel q.camera q.gain (s.cap.line.getD (roi.col0 + (a - first)) 0)
              if s.cap.exposure = some .b ∧ (Memory.read s.frames.mem a).toNat < px.toNat then Memory.read s.frames.mem a
              else px
            else Memory.read s.frames.mem a))

/-- A frame-end marker with every ROI row received: after exposure A the exposure B starts; after SINGLE or B the image is
complete: it takes the next image id, the buffers exchange roles, LAST is the image, the engine is IDLE, and the cycle is
MEASURING with the request of the image. The line count stays (log
entry 36). -/
def Obligations.FrameEndCompletesTheCapture : Prop :=
  ∀ (q : CapRequest) (roi : Roi) (g : Granted) (j : Job) (n : Station) (o : Objective) (s : State),
    s.cap.state = .receiving → s.cap.request = some q → s.cap.roi = some roi →
    roi.row0 + 2 * roi.hEff ≤ s.cap.lineCount → s.arb.due = false →
    (s.cap.exposure = some .a → exec .frameEndMarker s = .next { s with cap := { s.cap with
      state := .exposing, exposure := some .b, exposureCount := s.cap.exposureCount + 1, lit := [2, 4], lineCount := 0
      line := [], frameTimer := true } }) ∧
    (s.cap.exposure ≠ some .a → s.cycleJob = some (g, j) → s.cycle.objective = some n → s.station n = .objective o →
      s.meas.run = none →
      exec .frameEndMarker s = .next { s with
        cap := { s.cap with
          state := .idle, request := none, roi := none, exposure := none, lit := [], line := [], frameTimer := false
          imageCounter := s.cap.imageCounter + 1 }
        frames := { s.frames with
          work := s.frames.last, lastId := some (s.cap.imageCounter + 1), lastHEff := some roi.hEff }
        cycle := { s.cycle with
          state := .measuring
          known := { s.cycle.known with
            imageId := some (s.cap.imageCounter + 1), hEff := some roi.hEff, roiReduced := some roi.reduced } }
        meas := { s.meas with run := some {
          req := {
            imageId := s.cap.imageCounter + 1, hEff := roi.hEff, threshold := j.params.threshold, objective := n
            corr := o.corr, scale := o.scale }
          work := match j.params.threshold with
            | some t => { t := some t, phase := .profiles }
            | none => {} } } })

/-- A frame fails by a marker before the last ROI row, by the frame timer, or by either at the end of a discard, with the
kind the discard began with. The first failed frame of a capture restarts it from its first exposure and sets the cycle's
retry. The second is final and the engine is IDLE: after a corruption the point ends with an IMAGE_CORRUPT record and the
head is IDLE, after a FRAME_TIMEOUT the fault CAMERA_TIMEOUT is recorded, the record reads CAMERA_TIMEOUT and the head is
HALTED (here the job stays in the table, and the decision that follows grants nothing). The tail wait's end, by its timer
or by a marker, clears tail discard and starts the first exposure; a marker in IDLE clears tail discard. That an IDLE engine
keeps its line count is the model's reading (log entry 36). -/
def Obligations.FailedFramesRestart : Prop :=
  ∀ (q : CapRequest) (roi : Roi) (s : State), s.arb.due = false →
    let started : Capture → Capture := fun c => { c with
      state := .exposing, exposureCount := c.exposureCount + 1, lineCount := 0, line := [], frameTimer := true
      exposure := some (match q.illum with | .single => .single | .paired => .a)
      lit := match q.illum with | .single => [1, 2, 3, 4] | .paired => [1, 3] }
    (∀ c k n, s.cap.request = some q → s.cap.roi = some roi →
      ((s.cap.state = .receiving ∧ n = s.cap.lineCount ∧
          ((c = Instr.frameEndMarker ∧ k = FailKind.shortFrame ∧ n < roi.row0 + 2 * roi.hEff) ∨
            (c = .frameTimeout ∧ k = .frameTimeout ∧ s.cap.frameTimer = true))) ∨
        (s.cap.state = .discarding ∧ s.cap.lastDetail = some (k, n) ∧
          (c = .frameEndMarker ∨ (c = .frameTimeout ∧ s.cap.frameTimer = true)))) →
      (s.cap.retryCount = 0 → exec c s = .next { s with
        cap := started { s.cap with retryCount := 1, lastDetail := some (k, n) }
        cycle := { s.cycle with retryUsed := true } }) ∧
      (∀ g j, s.cap.retryCount = 1 → s.cycle.state = .capturing → s.arb.head = .busy → s.cycle.haltOnEnd = false →
        s.cycleJob = some (g, j) → s.pendingOf g.slot ≠ [] → s.act.atRest = true → s.cycle.pendTurret = false →
        s.pendingOrder = none → s.meas.run = none → (s.eligibleSlots = [] ∨ s.results.free = 0) →
        let fault : FaultRecord := {
          code := .cameraTimeout, sub := none, head := .busy
          point := s.grantedPoint.map fun g => (s.handle g.slot, g.index) }
        ∃ t, exec c s = .next t ∧
          t = { s with
            ports := t.ports, cycle := t.cycle, points := t.points, jobs := t.jobs, results := t.results, map := t.map
            verif := t.verif
            cap := { s.cap with
              state := .idle, request := none, roi := none, exposure := none, lit := [], line := [], frameTimer := false
              lastDetail := some (k, n) }
            arb := if k = .frameTimeout then { s.arb with
                head := .halted, wait := .none, holder := none, burst := 0, first := some (s.arb.first.getD fault)
                last := some fault }
              else { s.arb with head := .idle, wait := if s.eligibleSlots = [] then .noWork else .waitResults } } ∧
          PointCleared (if k = .frameTimeout then .cameraTimeout else .imageCorrupt) g j s t)) ∧
    (s.cap.state = .waiting → s.cap.request = some q → ∀ c, (c = Instr.tailWaitExpiry ∨ c = .frameEndMarker) →
      exec c s = .next { s with cap := started { s.cap with tailDiscard := false } }) ∧
    (s.cap.state = .idle → exec .frameEndMarker s = .next { s with cap := { s.cap with tailDiscard := false } })

/-- A measurement that ends with success writes the point's record in the same event: the last summary reads OK with the
request's image; the record stands last on the owner's untaken list with the values known to the cycle, the two diagonals,
the hardness of R143 and R144 and the flags of R140, R141, R144, R145 and R167; the map takes the indentation; the point
leaves the store and is counted. Here the job stays in the table and the decision that follows grants nothing. -/
def Obligations.MeasurementEndWritesTheRecord : Prop :=
  ∀ (m : MeasRun) (w : WorkItems) (g : Granted) (j : Job) (f dx dy : Int) (s : State),
    s.meas.run = some m → measurePass (measCtxOf m.req s) = .finished w → w.diags = some (dx, dy) →
    s.cycleJob = some (g, j) → s.cycle.known.force = some f → 0 < f → s.arb.head = .busy → s.cycle.haltOnEnd = false →
    s.pendingOf g.slot ≠ [] → (s.eligibleSlots = [] ∨ s.results.free = 0) → s.arb.due = false →
    let prof := (s.indenterOf j.params.indenter).profile
    let d := match prof with
      | .sp => (dx + dy + 1) / 2
      | .rb => dx
    let h := (2 * (f * (match prof with | .sp => 18909 | .rb => 145093) * 1000000) + d * d) / (2 * (d * d))
    ∃ t b, exec .measurementEnd s = .next t ∧
      t = { s with
        ports := t.ports, arb := t.arb, cycle := {}, points := t.points, jobs := t.jobs, results := t.results
        verif := t.verif, meas := t.meas, map := t.map } ∧
      t.meas.run = none ∧ t.meas.summary.map Summary.outcome = some (.ended .ok) ∧
      t.meas.summary.map Summary.imageId = some m.req.imageId ∧
      forPort t.results.untaken j.owner = forPort s.results.untaken j.owner ++ [{
        id := s.newRecordId, port := j.owner, handle := g.handle, kind := j.params.kind, specimen := j.params.specimen
        status := .ok, body := .point b }] ∧
      b.index = g.index ∧ b.tag = g.tag ∧ b.x = g.x ∧ b.y = g.y ∧ b.force = some f ∧ b.depth = s.cycle.known.depth ∧
      b.dwellTime = s.cycle.known.dwellTime ∧ b.imageId = s.cycle.known.imageId ∧ b.diags = some (dx, dy) ∧
      b.hardness = some (min h 400000).toNat ∧ b.flags.overCap = decide (400000 < h) ∧ b.flags.underFloor = decide (h < 100) ∧
      (b.flags.asymmetric = true ↔ prof = .sp ∧ 5 * d < (dx - dy).natAbs * 100) ∧
      (b.flags.shape = true ↔ prof = .rb ∧ dx < 5 * dy) ∧
      (b.flags.spacing = true ↔ ∃ e ∈ s.map, e.specimen = j.params.specimen ∧
        (g.x - e.x) ^ 2 + (g.y - e.y) ^ 2 < (3 * max (roundHalfUp d 100) e.diag) ^ 2) ∧
      t.map.getLast? = some {
        specimen := j.params.specimen, x := g.x, y := g.y, diag := roundHalfUp d 100, recordId := s.newRecordId } ∧
      t.points = s.points.filter (fun p => !(p.slot = g.slot && p.state = .granted)) ∧
      ((t.slot g.slot).job = some { j with ok := j.ok + 1 }) ∧ (∀ k, k ≠ g.slot → t.slot k = s.slot k) ∧
      t.results.reserved = s.results.reserved - 1 ∧ t.arb.head = .idle

/-! ## Decisions and grants -/

/-- The choice of a decision (R25): the job chosen is eligible and of the best priority. A burst grant goes to the burst
holder with grants left in its burst; a new grant is made only when no best job has such a burst, and goes to the earliest
port of the order that owns a best job and, among that port's, to the smallest open sequence. An eligible job and a whole
port order are enough for a choice. -/
def Obligations.ChoiceFollowsTheRules : Prop :=
  ∀ s : State,
    let best : Slot → Prop := fun i => s.eligible i = true ∧ ∀ k, s.eligible k = true → s.priority i ≤ s.priority k
    let bursting : Slot → Prop := fun i => ∃ j, (s.slot i).job = some j ∧ s.arb.holder = some (s.handle i) ∧
      s.arb.burst < j.params.burst
    (∀ i, s.choose = some (i, true) → best i ∧ bursting i) ∧
    (∀ i, s.choose = some (i, false) → best i ∧ (∀ k, best k → ¬ bursting k) ∧
      ∃ j before after, (s.slot i).job = some j ∧
        (if s.settings.rotationOn then s.arb.rotation else [.pa, .pb, .pc]) = before ++ j.owner :: after ∧
        (∀ k jk, best k → (s.slot k).job = some jk → jk.owner ∉ before) ∧
        (∀ k jk, best k → (s.slot k).job = some jk → jk.owner = j.owner → j.openSeq.toNat ≤ jk.openSeq.toNat)) ∧
    (s.rotationWf = true → (∃ i, s.eligible i = true) → s.choose ≠ none)

/-- JOB_UNHOLD that makes the only eligible job with the head IDLE and a FREE slot grants its oldest PENDING point within
the command: the point is GRANTED, a slot reserved, the head BUSY with the job as burst holder at 1, its port moved to the
end of the rotation list with the mode ON; and with the station check passed the cycle is POSITIONING, the INDENT_POS
order is published and the turret turns to the indenter unless it is PARKED there, its gated count 0 from then on (log entry 34). -/
def Obligations.UnholdGrantsThePoint : Prop :=
  ∀ (p : Port) (i : Slot) (j : Job) (q : Point) (qs : List Point) (m : Station) (s : State),
    s.posted p 0x0104 = true → s.findJob (handleAt (s.blockOf p)) = some (i, j) → j.owner = p → j.cancelling = false →
    j.held = true → s.pendingOf i = q :: qs → s.grantedOf i = none → s.eligibleSlots = [] → s.arb.head = .idle →
    s.arb.holder = none → s.rotationWf = true → s.results.free ≠ 0 → s.arb.due = false → s.cycle = {} →
    stationCheck j.params (s.station j.params.indenter) (s.station j.params.objective) = true →
    s.turret.state = .parked m → s.act.state = .retracted →
    ∃ t, exec (.jobUnhold p) s = .next t ∧
      t = { s with
        ports := t.ports, jobs := t.jobs, points := t.points, results := t.results, arb := t.arb, cycle := t.cycle
        stage := t.stage, turret := t.turret } ∧
      t.slot i = { s.slot i with job := some { j with held := false } } ∧ (∀ k, k ≠ i → t.slot k = s.slot k) ∧
      t.grantedOf i = some { q with state := .granted } ∧ t.pendingOf i = qs ∧
      (∀ k, k ≠ i → t.pointsOf k = s.pointsOf k) ∧
      t.results = { s.results with reserved := s.results.reserved + 1 } ∧
      t.arb = { s.arb with
        head := .busy, wait := .none, holder := some (s.handle i), burst := 1
        rotation := if s.settings.rotationOn then s.arb.rotation.filter (fun x => x ≠ p) ++ [p] else s.arb.rotation } ∧
      t.cycle = { s.cycle with
        state := .positioning, pendStage := true, pendTurret := decide (m ≠ j.params.indenter)
        objective := some j.params.objective
        granted := some { handle := s.handle i, slot := i, index := q.index, tag := q.tag, x := q.x, y := q.y } } ∧
      t.stage = {
        lastSeq := s.stage.lastSeq + 1, settleTimer := true
        order := some { seq := s.stage.lastSeq + 1, kind := .indentPos, x := q.x, y := q.y, status := .pending } } ∧
      (m = j.params.indenter → t.turret = s.turret) ∧
      (m ≠ j.params.indenter → ∃ r, t.turret = { s.turret with state := .rotating r, gated := 0 } ∧ r.src = m ∧
        r.target = j.params.indenter ∧ r.req = .cycle) ∧
      ToldWith p (.ok []) s t

/-! ## The arithmetic of a record -/

/-- The diagonal used of a square impression is the mean of the two, rounded half up, and its flags are those of R140. Every
later step uses the mean alone: two pairs with one mean leave the same record but for the pair itself and ASYMMETRIC, and
the same indent map. -/
def Obligations.SquareDiagonalIsTheMean : Prop :=
  ∀ (j : Job) (c : Cycle) (m : Measured) (g : Granted) (s : State),
    2 * diagonalUsed .sp m.dx m.dy ≤ m.dx + m.dy + 1 ∧ m.dx + m.dy ≤ 2 * diagonalUsed .sp m.dx m.dy ∧
    ((hardnessFlags j c .sp m s g).asymmetric = true ↔
      5 * diagonalUsed .sp m.dx m.dy < (m.dx - m.dy).natAbs * 100) ∧
    (hardnessFlags j c .sp m s g).shape = false ∧
    (∀ m' : Measured, diagonalUsed .sp m'.dx m'.dy = diagonalUsed .sp m.dx m.dy → m'.small = m.small →
      hardnessBody j c .sp m' s g = { hardnessBody j c .sp m s g with
        diags := some (m'.dx, m'.dy)
        flags := { hardnessFlags j c .sp m s g with asymmetric := (hardnessFlags j c .sp m' s g).asymmetric } } ∧
      ((s.indenterOf j.params.indenter).profile = .sp →
        (hardnessRecord g j m' s).map = (hardnessRecord g j m s).map))

/-- The diagonal used of a rhombic impression is the long one, and its flags are those of R141. The short diagonal enters
only the shape test: two pairs with one long diagonal leave the same record but for the pair itself and SHAPE, and the
same indent map. -/
def Obligations.RhombicDiagonalIsTheLongOne : Prop :=
  ∀ (j : Job) (c : Cycle) (m : Measured) (g : Granted) (s : State),
    diagonalUsed .rb m.dx m.dy = m.dx ∧
    ((hardnessFlags j c .rb m s g).shape = true ↔ m.dx < 5 * m.dy) ∧
    (hardnessFlags j c .rb m s g).asymmetric = false ∧
    (∀ m' : Measured, m'.dx = m.dx → m'.small = m.small →
      hardnessBody j c .rb m' s g = { hardnessBody j c .rb m s g with
        diags := some (m'.dx, m'.dy)
        flags := { hardnessFlags j c .rb m s g with shape := (hardnessFlags j c .rb m' s g).shape } } ∧
      ((s.indenterOf j.params.indenter).profile = .rb →
        (hardnessRecord g j m' s).map = (hardnessRecord g j m s).map))

/-! ## Invariants -/

/-- Every command and every idle millisecond keeps what the tables and windows must be: the rotation list (R27), the map's
and the verification table's sizes and keys (R166, R177), the burst pair (R26), the windows' sizes (R187), the wait
condition (R24), the halted head's burst (R26) and the spent decision latch (log entry 8). -/
def Obligations.StepsKeepTheTables : Prop :=
  ∀ s t : State, step s = .next t →
    (s.rotationWf = true → t.rotationWf = true) ∧ (s.mapWf = true → t.mapWf = true) ∧
    (s.verifWf = true → t.verifWf = true) ∧ (s.burstWf = true → t.burstWf = true) ∧
    (s.windowsWf = true → t.windowsWf = true) ∧ (s.waitWf = true → t.waitWf = true) ∧
    (s.haltWf = true → t.haltWf = true) ∧ (s.quiet = true → t.quiet = true)

/-- Every step keeps the interlock: while the turret turns, the actuator is RETRACTED (R69, R90). -/
def Obligations.StepsKeepTheInterlock : Prop :=
  ∀ s t : State, s.interlock = true → step s = .next t → t.interlock = true

/-- Every step keeps the frame store in canonical form inside its two buffers (R103), and the sizes that make it so: no
job's half-size and no ROI is above 480. -/
def Obligations.StepsKeepTheFrameStore : Prop :=
  ∀ s t : State, s.framesWf = true → s.roiWf = true → step s = .next t → t.framesWf = true ∧ t.roiWf = true

/-- Every step keeps the result store's account (R29): one RESERVED slot for each job and one for the granted point, at most
96 slots in use, and the granted point of the store the one the cycle holds, while the head is BUSY. -/
def Obligations.StepsKeepTheReservations : Prop :=
  ∀ s t : State, s.accountWf = true → step s = .next t → t.accountWf = true

/-- The machine after reset meets every invariant. -/
def Obligations.ResetMeetsTheInvariants : Prop :=
  State.reset.rotationWf = true ∧ State.reset.mapWf = true ∧ State.reset.verifWf = true ∧ State.reset.burstWf = true ∧
  State.reset.windowsWf = true ∧ State.reset.waitWf = true ∧ State.reset.haltWf = true ∧ State.reset.quiet = true ∧
  State.reset.interlock = true ∧ State.reset.framesWf = true ∧ State.reset.roiWf = true ∧ State.reset.accountWf = true
end

