-- ==== Sys2Proof/Laws/Memory.lean ====
section
/-! SUPPORT. The frame store's memory: reading after writing, and the canonical form kept by every operation. -/

namespace Sys2Proof.Machine

/-! ## Reading -/

@[simp] theorem Memory.read_nil (a : Nat) : Memory.read [] a = 0 := rfl

theorem Memory.read_cons (k a : Nat) (v : Byte) (m : Memory) :
    Memory.read ((k, v) :: m) a = if k = a then v else Memory.read m a := rfl

theorem Memory.read_of_not_mem {m : Memory} {a : Nat} (h : a ∉ m.map Prod.fst) : Memory.read m a = 0 := by
  induction m with
  | nil => rfl
  | cons c m ih =>
    obtain ⟨k, v⟩ := c
    simp only [List.map_cons, List.mem_cons, not_or] at h
    rw [Memory.read_cons, if_neg (Ne.symm h.1), ih h.2]

theorem Memory.read_append (m n : Memory) (a : Nat) :
    Memory.read (m ++ n) a = if a ∈ m.map Prod.fst then Memory.read m a else Memory.read n a := by
  induction m with
  | nil => simp
  | cons c m ih =>
    obtain ⟨k, v⟩ := c
    rw [List.cons_append, Memory.read_cons, Memory.read_cons, ih]
    by_cases h : k = a
    · simp [h]
    · have h' : a ≠ k := Ne.symm h
      simp [h, h']

theorem Memory.read_filter (m : Memory) (P : Nat → Bool) (a : Nat) :
    Memory.read (m.filter fun c => P c.1) a = if P a then Memory.read m a else 0 := by
  induction m with
  | nil => simp
  | cons c m ih =>
    obtain ⟨k, v⟩ := c
    by_cases hk : P k
    · rw [List.filter_cons_of_pos (by simpa using hk), Memory.read_cons, Memory.read_cons, ih]
      by_cases h : k = a
      · subst h; simp [hk]
      · simp [h]
    · rw [List.filter_cons_of_neg (by simpa using hk), ih, Memory.read_cons]
      by_cases h : k = a
      · subst h; simp [hk]
      · simp [h]

theorem Memory.read_cellsFrom (bs : List Byte) (lo a : Nat) :
    Memory.read (Memory.cellsFrom lo bs) a = if lo ≤ a ∧ a < lo + bs.length then bs.getD (a - lo) 0 else 0 := by
  induction bs generalizing lo with
  | nil => simp [Memory.cellsFrom]
  | cons b bs ih =>
    have key : Memory.read (Memory.cellsFrom (lo + 1) bs) a =
        if lo + 1 ≤ a ∧ a < lo + 1 + bs.length then bs.getD (a - (lo + 1)) 0 else 0 := ih (lo + 1)
    by_cases hb : b = 0
    · simp only [Memory.cellsFrom, hb, if_true, key, List.length_cons]
      by_cases h : lo = a
      · subst h; simp
      · by_cases h2 : lo + 1 ≤ a
        · have e : a - lo = (a - (lo + 1)) + 1 := by omega
          have c : (lo + 1 ≤ a ∧ a < lo + 1 + bs.length) ↔ (lo ≤ a ∧ a < lo + (bs.length + 1)) := by omega
          rw [e, List.getD_cons_succ]; simp only [c]
        · have c1 : ¬ (lo + 1 ≤ a ∧ a < lo + 1 + bs.length) := by omega
          have c2 : ¬ (lo ≤ a ∧ a < lo + (bs.length + 1)) := by omega
          simp only [c1, c2, if_false]
    · simp only [Memory.cellsFrom, hb, if_false, Memory.read_cons, key, List.length_cons]
      by_cases h : lo = a
      · subst h; simp
      · by_cases h2 : lo + 1 ≤ a
        · have e : a - lo = (a - (lo + 1)) + 1 := by omega
          have c : (lo + 1 ≤ a ∧ a < lo + 1 + bs.length) ↔ (lo ≤ a ∧ a < lo + (bs.length + 1)) := by omega
          rw [e, List.getD_cons_succ]; simp only [c, if_neg h]
        · have c1 : ¬ (lo + 1 ≤ a ∧ a < lo + 1 + bs.length) := by omega
          have c2 : ¬ (lo ≤ a ∧ a < lo + (bs.length + 1)) := by omega
          simp only [c1, c2, if_false, if_neg h]

theorem Memory.keys_cellsFrom {bs : List Byte} {lo a : Nat} (h : a ∈ (Memory.cellsFrom lo bs).map Prod.fst) :
    lo ≤ a ∧ a < lo + bs.length := by
  induction bs generalizing lo with
  | nil => simp [Memory.cellsFrom] at h
  | cons b bs ih =>
    simp only [Memory.cellsFrom] at h
    split at h
    · have := ih h; simp only [List.length_cons]; omega
    · simp only [List.map_cons, List.mem_cons] at h
      rcases h with h | h
      · simp only [List.length_cons]; omega
      · have := ih h; simp only [List.length_cons]; omega

theorem Memory.key_filter {m : Memory} {P : Nat → Bool} {a : Nat}
    (h : a ∈ (m.filter fun c => P c.1).map Prod.fst) : P a = true := by
  simp only [List.mem_map, List.mem_filter] at h
  obtain ⟨c, ⟨_, hp⟩, rfl⟩ := h
  exact hp

/-- A byte read after a write: the byte written inside the stored bytes, and what stood there outside them. -/
theorem Memory.read_write (m : Memory) (a : Nat) (bs : List Byte) (x : Nat) :
    Memory.read (Memory.write m a bs) x =
      if a ≤ x ∧ x < a + bs.length then bs.getD (x - a) 0 else Memory.read m x := by
  have f1 := Memory.read_filter m (fun k => decide (k < a)) x
  have f2 := Memory.read_filter m (fun k => decide (a + bs.length ≤ k)) x
  rw [Memory.write, Memory.read_append, Memory.read_append]
  by_cases hin : a ≤ x ∧ x < a + bs.length
  · have n1 : x ∉ (m.filter fun c => decide (c.1 < a)).map Prod.fst := fun h => by
      have := Memory.key_filter (P := fun k => decide (k < a)) h
      simp at this; omega
    rw [if_pos hin]
    by_cases hc : x ∈ (Memory.cellsFrom a bs).map Prod.fst
    · have hm : x ∈ (m.filter (fun c => decide (c.1 < a)) ++ Memory.cellsFrom a bs).map Prod.fst := by
        rw [List.map_append, List.mem_append]; exact Or.inr hc
      rw [if_pos hm, if_neg n1, Memory.read_cellsFrom, if_pos hin]
    · have hm : x ∉ (m.filter (fun c => decide (c.1 < a)) ++ Memory.cellsFrom a bs).map Prod.fst := by
        rw [List.map_append, List.mem_append]; rintro (h | h)
        · exact n1 h
        · exact hc h
      have z : Memory.read (Memory.cellsFrom a bs) x = 0 := Memory.read_of_not_mem hc
      rw [Memory.read_cellsFrom, if_pos hin] at z
      have : decide (a + bs.length ≤ x) = false := by simp; omega
      rw [if_neg hm, f2, this, z]; simp
  · rw [if_neg hin]
    have nc : x ∉ (Memory.cellsFrom a bs).map Prod.fst := fun h => hin (Memory.keys_cellsFrom h)
    by_cases hx : x < a
    · have d2 : decide (a + bs.length ≤ x) = false := by simp; omega
      rw [f1, f2, d2, Memory.read_of_not_mem nc]
      simp only [hx, decide_true, if_true, Bool.false_eq_true, if_false]
      split
      · rename_i hm
        split
        · rfl
        · rename_i hm'
          have := Memory.read_of_not_mem hm'
          rw [f1] at this; simpa [hx] using this.symm
      · rename_i hm
        have hm' : x ∉ (m.filter fun c => decide (c.1 < a)).map Prod.fst := fun h => hm (by
          rw [List.map_append, List.mem_append]; exact Or.inl h)
        have := Memory.read_of_not_mem hm'
        rw [f1] at this; simpa [hx] using this.symm
    · have n1 : x ∉ (m.filter fun c => decide (c.1 < a)).map Prod.fst := fun h => by
        have := Memory.key_filter (P := fun k => decide (k < a)) h
        simp at this; omega
      have hm : x ∉ (m.filter (fun c => decide (c.1 < a)) ++ Memory.cellsFrom a bs).map Prod.fst := by
        rw [List.map_append, List.mem_append]; rintro (h | h)
        · exact n1 h
        · exact nc h
      have d2 : decide (a + bs.length ≤ x) = true := by simp; omega
      rw [if_neg hm, f2, d2]; simp

/-! ## The canonical form -/

theorem Memory.risingFrom_mono {m : Memory} {lo lo' : Nat} (h : Memory.risingFrom lo m = true) (hl : lo' ≤ lo) :
    Memory.risingFrom lo' m = true := by
  cases m with
  | nil => rfl
  | cons c m =>
    obtain ⟨k, v⟩ := c
    simp only [Memory.risingFrom, Bool.and_eq_true, decide_eq_true_eq] at h ⊢
    exact ⟨⟨by omega, h.1.2⟩, h.2⟩

theorem Memory.risingFrom_filter {m : Memory} {lo : Nat} (P : Nat × Byte → Bool)
    (h : Memory.risingFrom lo m = true) : Memory.risingFrom lo (m.filter P) = true := by
  induction m generalizing lo with
  | nil => rfl
  | cons c m ih =>
    obtain ⟨k, v⟩ := c
    simp only [Memory.risingFrom, Bool.and_eq_true, decide_eq_true_eq] at h
    by_cases hp : P (k, v)
    · rw [List.filter_cons_of_pos hp]
      simp only [Memory.risingFrom, Bool.and_eq_true, decide_eq_true_eq]
      exact ⟨h.1, ih h.2⟩
    · rw [List.filter_cons_of_neg hp]
      exact Memory.risingFrom_mono (ih h.2) (by omega)

theorem Memory.risingFrom_append {m n : Memory} {lo mid : Nat} (hm : Memory.risingFrom lo m = true)
    (hk : ∀ c ∈ m, c.1 < mid) (hn : Memory.risingFrom mid n = true) (hl : lo ≤ mid) :
    Memory.risingFrom lo (m ++ n) = true := by
  induction m generalizing lo with
  | nil => exact Memory.risingFrom_mono hn hl
  | cons c m ih =>
    obtain ⟨k, v⟩ := c
    simp only [List.cons_append, Memory.risingFrom, Bool.and_eq_true, decide_eq_true_eq] at hm ⊢
    have := hk (k, v) (by simp)
    exact ⟨hm.1, ih hm.2 (fun c hc => hk c (by simp [hc])) (by omega)⟩

theorem Memory.risingFrom_cellsFrom (lo : Nat) (bs : List Byte) :
    Memory.risingFrom lo (Memory.cellsFrom lo bs) = true := by
  induction bs generalizing lo with
  | nil => rfl
  | cons b bs ih =>
    by_cases hb : b = 0
    · simp only [Memory.cellsFrom, hb, if_true]; exact Memory.risingFrom_mono (ih (lo + 1)) (by omega)
    · simp only [Memory.cellsFrom, if_neg hb, Memory.risingFrom, ih, Bool.and_true, Bool.and_eq_true,
        decide_eq_true_eq, le_refl, true_and, bne_iff_ne, ne_eq]
      exact hb

theorem Memory.risingFrom_above {m : Memory} {lo mid : Nat} (h : Memory.risingFrom lo m = true)
    (hk : ∀ c ∈ m, mid ≤ c.1) : Memory.risingFrom mid m = true := by
  cases m with
  | nil => rfl
  | cons c m =>
    obtain ⟨k, v⟩ := c
    simp only [Memory.risingFrom, Bool.and_eq_true, decide_eq_true_eq] at h ⊢
    exact ⟨⟨hk (k, v) (by simp), h.1.2⟩, h.2⟩

/-- A write inside the two buffers keeps the canonical form. -/
theorem Memory.wf_write {m : Memory} {a : Nat} {bs : List Byte} (h : m.wf = true)
    (hin : a + bs.length ≤ 2 * Config.bufferBytes) : (Memory.write m a bs).wf = true := by
  simp only [Memory.wf, Bool.and_eq_true, List.all_eq_true, decide_eq_true_eq] at h ⊢
  constructor
  · unfold Memory.write
    refine Memory.risingFrom_append (mid := a + bs.length) ?_ ?_ ?_ (by omega)
    · refine Memory.risingFrom_append (mid := a) (Memory.risingFrom_filter _ h.1) ?_
        (Memory.risingFrom_cellsFrom a bs) (by omega)
      intro c hc; simp at hc; exact hc.2
    · intro c hc
      rw [List.mem_append] at hc
      rcases hc with hc | hc
      · simp at hc; omega
      · exact (Memory.keys_cellsFrom (List.mem_map_of_mem hc)).2
    · exact Memory.risingFrom_above (Memory.risingFrom_filter _ h.1) (by intro c hc; simp at hc; omega)
  · intro c hc
    simp only [Memory.write, List.mem_append, List.mem_filter] at hc
    rcases hc with (hc | hc) | hc
    · exact h.2 c hc.1
    · have := Memory.keys_cellsFrom (List.mem_map_of_mem (f := Prod.fst) hc); omega
    · exact h.2 c hc.1

/-- Bytes laid out from address 0 are in canonical form. -/
theorem Memory.wf_cellsFrom_zero {bs : List Byte} (h : bs.length ≤ 2 * Config.bufferBytes) :
    (Memory.cellsFrom 0 bs).wf = true := by
  simp only [Memory.wf, Bool.and_eq_true, List.all_eq_true, decide_eq_true_eq]
  refine ⟨Memory.risingFrom_cellsFrom 0 bs, fun c hc => ?_⟩
  have := Memory.keys_cellsFrom (List.mem_map_of_mem (f := Prod.fst) hc); omega

/-- A whole fill of both buffers is in canonical form. -/
theorem fillFrames_wf (f : Nat → Byte) : (fillFrames f).wf = true :=
  Memory.wf_cellsFrom_zero (by simp)

theorem Memory.wf_nil : Memory.wf [] = true := rfl

/-- The frame store's memory right after reset is in canonical form. -/
theorem reset_memory_wf : State.reset.frames.mem.wf = true := rfl

/-- An address of a buffer's row and column lies inside the two buffers. -/
theorem frameAddr_lt {b r c : Nat} (hb : b < 2) (hr : r < 960) (hc : c < 960) :
    frameAddr b r c < 2 * Config.bufferBytes := by
  simp only [frameAddr, Config.bufferBytes, Config.frameSide]; omega

@[simp] theorem Memory.slice_length (m : Memory) (a n : Nat) : (Memory.slice m a n).length = n := by
  simp [Memory.slice]

/-- A slice holds the bytes read one by one. -/
theorem Memory.slice_eq (m : Memory) (a n : Nat) :
    Memory.slice m a n = (List.range n).map fun i => Memory.read m (a + i) := by
  simp only [Memory.slice]
  apply List.map_congr_left
  intro i hi
  have h := Memory.read_filter m (fun k => decide (a ≤ k) && decide (k < a + n)) (a + i)
  rw [h]; simp at hi; simp [hi]

end Sys2Proof.Machine
end

