-- ==== Sys2Proof/Laws/State.lean ====
section
/-! SUPPORT. One lemma per field per update of the state: what each update leaves as it was, and what it sets. -/

namespace Sys2Proof.Machine

variable (s : State)

/-! ## State.withPending -/

@[simp] theorem State.withPending_ports (q : List Instr) : (s.withPending q).ports = s.ports := rfl
@[simp] theorem State.withPending_spi (q : List Instr) : (s.withPending q).spi = s.spi := rfl
@[simp] theorem State.withPending_jobs (q : List Instr) : (s.withPending q).jobs = s.jobs := rfl
@[simp] theorem State.withPending_openOrder (q : List Instr) : (s.withPending q).openOrder = s.openOrder := rfl
@[simp] theorem State.withPending_points (q : List Instr) : (s.withPending q).points = s.points := rfl
@[simp] theorem State.withPending_arb (q : List Instr) : (s.withPending q).arb = s.arb := rfl
@[simp] theorem State.withPending_cycle (q : List Instr) : (s.withPending q).cycle = s.cycle := rfl
@[simp] theorem State.withPending_stage (q : List Instr) : (s.withPending q).stage = s.stage := rfl
@[simp] theorem State.withPending_turret (q : List Instr) : (s.withPending q).turret = s.turret := rfl
@[simp] theorem State.withPending_acq (q : List Instr) : (s.withPending q).acq = s.acq := rfl
@[simp] theorem State.withPending_act (q : List Instr) : (s.withPending q).act = s.act := rfl
@[simp] theorem State.withPending_pins (q : List Instr) : (s.withPending q).pins = s.pins := rfl
@[simp] theorem State.withPending_cap (q : List Instr) : (s.withPending q).cap = s.cap := rfl
@[simp] theorem State.withPending_frames (q : List Instr) : (s.withPending q).frames = s.frames := rfl
@[simp] theorem State.withPending_meas (q : List Instr) : (s.withPending q).meas = s.meas := rfl
@[simp] theorem State.withPending_results (q : List Instr) : (s.withPending q).results = s.results := rfl
@[simp] theorem State.withPending_map (q : List Instr) : (s.withPending q).map = s.map := rfl
@[simp] theorem State.withPending_cal (q : List Instr) : (s.withPending q).cal = s.cal := rfl
@[simp] theorem State.withPending_settings (q : List Instr) : (s.withPending q).settings = s.settings := rfl
@[simp] theorem State.withPending_verif (q : List Instr) : (s.withPending q).verif = s.verif := rfl
@[simp] theorem State.withPending_selftest (q : List Instr) : (s.withPending q).selftest = s.selftest := rfl
@[simp] theorem State.withPending_freeCount (q : List Instr) : (s.withPending q).freeCount = s.freeCount := rfl
@[simp] theorem State.withPending_pending (q : List Instr) : (s.withPending q).pending = q := rfl

/-! ## State.setMailbox -/

@[simp] theorem State.setMailbox_pending (p : Port) (m : Mailbox) : (s.setMailbox p m).pending = s.pending := rfl
@[simp] theorem State.setMailbox_spi (p : Port) (m : Mailbox) : (s.setMailbox p m).spi = s.spi := rfl
@[simp] theorem State.setMailbox_jobs (p : Port) (m : Mailbox) : (s.setMailbox p m).jobs = s.jobs := rfl
@[simp] theorem State.setMailbox_openOrder (p : Port) (m : Mailbox) : (s.setMailbox p m).openOrder = s.openOrder := rfl
@[simp] theorem State.setMailbox_points (p : Port) (m : Mailbox) : (s.setMailbox p m).points = s.points := rfl
@[simp] theorem State.setMailbox_arb (p : Port) (m : Mailbox) : (s.setMailbox p m).arb = s.arb := rfl
@[simp] theorem State.setMailbox_cycle (p : Port) (m : Mailbox) : (s.setMailbox p m).cycle = s.cycle := rfl
@[simp] theorem State.setMailbox_stage (p : Port) (m : Mailbox) : (s.setMailbox p m).stage = s.stage := rfl
@[simp] theorem State.setMailbox_turret (p : Port) (m : Mailbox) : (s.setMailbox p m).turret = s.turret := rfl
@[simp] theorem State.setMailbox_acq (p : Port) (m : Mailbox) : (s.setMailbox p m).acq = s.acq := rfl
@[simp] theorem State.setMailbox_act (p : Port) (m : Mailbox) : (s.setMailbox p m).act = s.act := rfl
@[simp] theorem State.setMailbox_pins (p : Port) (m : Mailbox) : (s.setMailbox p m).pins = s.pins := rfl
@[simp] theorem State.setMailbox_cap (p : Port) (m : Mailbox) : (s.setMailbox p m).cap = s.cap := rfl
@[simp] theorem State.setMailbox_frames (p : Port) (m : Mailbox) : (s.setMailbox p m).frames = s.frames := rfl
@[simp] theorem State.setMailbox_meas (p : Port) (m : Mailbox) : (s.setMailbox p m).meas = s.meas := rfl
@[simp] theorem State.setMailbox_results (p : Port) (m : Mailbox) : (s.setMailbox p m).results = s.results := rfl
@[simp] theorem State.setMailbox_map (p : Port) (m : Mailbox) : (s.setMailbox p m).map = s.map := rfl
@[simp] theorem State.setMailbox_cal (p : Port) (m : Mailbox) : (s.setMailbox p m).cal = s.cal := rfl
@[simp] theorem State.setMailbox_settings (p : Port) (m : Mailbox) : (s.setMailbox p m).settings = s.settings := rfl
@[simp] theorem State.setMailbox_verif (p : Port) (m : Mailbox) : (s.setMailbox p m).verif = s.verif := rfl
@[simp] theorem State.setMailbox_selftest (p : Port) (m : Mailbox) : (s.setMailbox p m).selftest = s.selftest := rfl
@[simp] theorem State.setMailbox_freeCount (p : Port) (m : Mailbox) : (s.setMailbox p m).freeCount = s.freeCount := rfl
@[simp] theorem State.setMailbox_ports (p : Port) (m : Mailbox) : (s.setMailbox p m).ports = withPort s.ports p m := rfl

/-! ## endTransfer -/

@[simp] theorem endTransfer_pending (p : Port) : (endTransfer p s).pending = s.pending := rfl
@[simp] theorem endTransfer_ports (p : Port) : (endTransfer p s).ports = s.ports := rfl
@[simp] theorem endTransfer_jobs (p : Port) : (endTransfer p s).jobs = s.jobs := rfl
@[simp] theorem endTransfer_openOrder (p : Port) : (endTransfer p s).openOrder = s.openOrder := rfl
@[simp] theorem endTransfer_points (p : Port) : (endTransfer p s).points = s.points := rfl
@[simp] theorem endTransfer_arb (p : Port) : (endTransfer p s).arb = s.arb := rfl
@[simp] theorem endTransfer_cycle (p : Port) : (endTransfer p s).cycle = s.cycle := rfl
@[simp] theorem endTransfer_stage (p : Port) : (endTransfer p s).stage = s.stage := rfl
@[simp] theorem endTransfer_turret (p : Port) : (endTransfer p s).turret = s.turret := rfl
@[simp] theorem endTransfer_acq (p : Port) : (endTransfer p s).acq = s.acq := rfl
@[simp] theorem endTransfer_act (p : Port) : (endTransfer p s).act = s.act := rfl
@[simp] theorem endTransfer_pins (p : Port) : (endTransfer p s).pins = s.pins := rfl
@[simp] theorem endTransfer_cap (p : Port) : (endTransfer p s).cap = s.cap := rfl
@[simp] theorem endTransfer_frames (p : Port) : (endTransfer p s).frames = s.frames := rfl
@[simp] theorem endTransfer_meas (p : Port) : (endTransfer p s).meas = s.meas := rfl
@[simp] theorem endTransfer_results (p : Port) : (endTransfer p s).results = s.results := rfl
@[simp] theorem endTransfer_map (p : Port) : (endTransfer p s).map = s.map := rfl
@[simp] theorem endTransfer_cal (p : Port) : (endTransfer p s).cal = s.cal := rfl
@[simp] theorem endTransfer_settings (p : Port) : (endTransfer p s).settings = s.settings := rfl
@[simp] theorem endTransfer_verif (p : Port) : (endTransfer p s).verif = s.verif := rfl
@[simp] theorem endTransfer_selftest (p : Port) : (endTransfer p s).selftest = s.selftest := rfl
@[simp] theorem endTransfer_freeCount (p : Port) : (endTransfer p s).freeCount = s.freeCount := rfl
@[simp] theorem endTransfer_spi (p : Port) : (endTransfer p s).spi = withPort s.spi p none := rfl

/-! ## spiSelect -/

@[simp] theorem spiSelect_pending (p : Port) : (spiSelect p s).pending = s.pending := rfl
@[simp] theorem spiSelect_ports (p : Port) : (spiSelect p s).ports = s.ports := rfl
@[simp] theorem spiSelect_jobs (p : Port) : (spiSelect p s).jobs = s.jobs := rfl
@[simp] theorem spiSelect_openOrder (p : Port) : (spiSelect p s).openOrder = s.openOrder := rfl
@[simp] theorem spiSelect_points (p : Port) : (spiSelect p s).points = s.points := rfl
@[simp] theorem spiSelect_arb (p : Port) : (spiSelect p s).arb = s.arb := rfl
@[simp] theorem spiSelect_cycle (p : Port) : (spiSelect p s).cycle = s.cycle := rfl
@[simp] theorem spiSelect_stage (p : Port) : (spiSelect p s).stage = s.stage := rfl
@[simp] theorem spiSelect_turret (p : Port) : (spiSelect p s).turret = s.turret := rfl
@[simp] theorem spiSelect_acq (p : Port) : (spiSelect p s).acq = s.acq := rfl
@[simp] theorem spiSelect_act (p : Port) : (spiSelect p s).act = s.act := rfl
@[simp] theorem spiSelect_pins (p : Port) : (spiSelect p s).pins = s.pins := rfl
@[simp] theorem spiSelect_cap (p : Port) : (spiSelect p s).cap = s.cap := rfl
@[simp] theorem spiSelect_frames (p : Port) : (spiSelect p s).frames = s.frames := rfl
@[simp] theorem spiSelect_meas (p : Port) : (spiSelect p s).meas = s.meas := rfl
@[simp] theorem spiSelect_results (p : Port) : (spiSelect p s).results = s.results := rfl
@[simp] theorem spiSelect_map (p : Port) : (spiSelect p s).map = s.map := rfl
@[simp] theorem spiSelect_cal (p : Port) : (spiSelect p s).cal = s.cal := rfl
@[simp] theorem spiSelect_settings (p : Port) : (spiSelect p s).settings = s.settings := rfl
@[simp] theorem spiSelect_verif (p : Port) : (spiSelect p s).verif = s.verif := rfl
@[simp] theorem spiSelect_selftest (p : Port) : (spiSelect p s).selftest = s.selftest := rfl
@[simp] theorem spiSelect_freeCount (p : Port) : (spiSelect p s).freeCount = s.freeCount := rfl
@[simp] theorem spiSelect_spi (p : Port) : (spiSelect p s).spi = withPort s.spi p (some {}) := rfl

/-! ## takeCommand -/

@[simp] theorem takeCommand_pending (p : Port) : (takeCommand p s).pending = s.pending := rfl
@[simp] theorem takeCommand_spi (p : Port) : (takeCommand p s).spi = s.spi := rfl
@[simp] theorem takeCommand_jobs (p : Port) : (takeCommand p s).jobs = s.jobs := rfl
@[simp] theorem takeCommand_openOrder (p : Port) : (takeCommand p s).openOrder = s.openOrder := rfl
@[simp] theorem takeCommand_points (p : Port) : (takeCommand p s).points = s.points := rfl
@[simp] theorem takeCommand_arb (p : Port) : (takeCommand p s).arb = s.arb := rfl
@[simp] theorem takeCommand_cycle (p : Port) : (takeCommand p s).cycle = s.cycle := rfl
@[simp] theorem takeCommand_stage (p : Port) : (takeCommand p s).stage = s.stage := rfl
@[simp] theorem takeCommand_turret (p : Port) : (takeCommand p s).turret = s.turret := rfl
@[simp] theorem takeCommand_acq (p : Port) : (takeCommand p s).acq = s.acq := rfl
@[simp] theorem takeCommand_act (p : Port) : (takeCommand p s).act = s.act := rfl
@[simp] theorem takeCommand_pins (p : Port) : (takeCommand p s).pins = s.pins := rfl
@[simp] theorem takeCommand_cap (p : Port) : (takeCommand p s).cap = s.cap := rfl
@[simp] theorem takeCommand_frames (p : Port) : (takeCommand p s).frames = s.frames := rfl
@[simp] theorem takeCommand_meas (p : Port) : (takeCommand p s).meas = s.meas := rfl
@[simp] theorem takeCommand_results (p : Port) : (takeCommand p s).results = s.results := rfl
@[simp] theorem takeCommand_map (p : Port) : (takeCommand p s).map = s.map := rfl
@[simp] theorem takeCommand_cal (p : Port) : (takeCommand p s).cal = s.cal := rfl
@[simp] theorem takeCommand_settings (p : Port) : (takeCommand p s).settings = s.settings := rfl
@[simp] theorem takeCommand_verif (p : Port) : (takeCommand p s).verif = s.verif := rfl
@[simp] theorem takeCommand_selftest (p : Port) : (takeCommand p s).selftest = s.selftest := rfl
@[simp] theorem takeCommand_freeCount (p : Port) : (takeCommand p s).freeCount = s.freeCount := rfl
@[simp] theorem takeCommand_ports (p : Port) : (takeCommand p s).ports = withPort s.ports p { s.mailbox p with state := .working } := rfl

/-! ## State.setSlot -/

@[simp] theorem State.setSlot_pending (i : Slot) (e : JobSlot) : (s.setSlot i e).pending = s.pending := rfl
@[simp] theorem State.setSlot_ports (i : Slot) (e : JobSlot) : (s.setSlot i e).ports = s.ports := rfl
@[simp] theorem State.setSlot_spi (i : Slot) (e : JobSlot) : (s.setSlot i e).spi = s.spi := rfl
@[simp] theorem State.setSlot_openOrder (i : Slot) (e : JobSlot) : (s.setSlot i e).openOrder = s.openOrder := rfl
@[simp] theorem State.setSlot_points (i : Slot) (e : JobSlot) : (s.setSlot i e).points = s.points := rfl
@[simp] theorem State.setSlot_arb (i : Slot) (e : JobSlot) : (s.setSlot i e).arb = s.arb := rfl
@[simp] theorem State.setSlot_cycle (i : Slot) (e : JobSlot) : (s.setSlot i e).cycle = s.cycle := rfl
@[simp] theorem State.setSlot_stage (i : Slot) (e : JobSlot) : (s.setSlot i e).stage = s.stage := rfl
@[simp] theorem State.setSlot_turret (i : Slot) (e : JobSlot) : (s.setSlot i e).turret = s.turret := rfl
@[simp] theorem State.setSlot_acq (i : Slot) (e : JobSlot) : (s.setSlot i e).acq = s.acq := rfl
@[simp] theorem State.setSlot_act (i : Slot) (e : JobSlot) : (s.setSlot i e).act = s.act := rfl
@[simp] theorem State.setSlot_pins (i : Slot) (e : JobSlot) : (s.setSlot i e).pins = s.pins := rfl
@[simp] theorem State.setSlot_cap (i : Slot) (e : JobSlot) : (s.setSlot i e).cap = s.cap := rfl
@[simp] theorem State.setSlot_frames (i : Slot) (e : JobSlot) : (s.setSlot i e).frames = s.frames := rfl
@[simp] theorem State.setSlot_meas (i : Slot) (e : JobSlot) : (s.setSlot i e).meas = s.meas := rfl
@[simp] theorem State.setSlot_results (i : Slot) (e : JobSlot) : (s.setSlot i e).results = s.results := rfl
@[simp] theorem State.setSlot_map (i : Slot) (e : JobSlot) : (s.setSlot i e).map = s.map := rfl
@[simp] theorem State.setSlot_cal (i : Slot) (e : JobSlot) : (s.setSlot i e).cal = s.cal := rfl
@[simp] theorem State.setSlot_settings (i : Slot) (e : JobSlot) : (s.setSlot i e).settings = s.settings := rfl
@[simp] theorem State.setSlot_verif (i : Slot) (e : JobSlot) : (s.setSlot i e).verif = s.verif := rfl
@[simp] theorem State.setSlot_selftest (i : Slot) (e : JobSlot) : (s.setSlot i e).selftest = s.selftest := rfl
@[simp] theorem State.setSlot_freeCount (i : Slot) (e : JobSlot) : (s.setSlot i e).freeCount = s.freeCount := rfl
@[simp] theorem State.setSlot_jobs (i : Slot) (e : JobSlot) : (s.setSlot i e).jobs = s.jobs.set i e := rfl

/-! ## State.setStation -/

@[simp] theorem State.setStation_pending (n : Station) (r : StationRec) : (s.setStation n r).pending = s.pending := rfl
@[simp] theorem State.setStation_ports (n : Station) (r : StationRec) : (s.setStation n r).ports = s.ports := rfl
@[simp] theorem State.setStation_spi (n : Station) (r : StationRec) : (s.setStation n r).spi = s.spi := rfl
@[simp] theorem State.setStation_jobs (n : Station) (r : StationRec) : (s.setStation n r).jobs = s.jobs := rfl
@[simp] theorem State.setStation_openOrder (n : Station) (r : StationRec) : (s.setStation n r).openOrder = s.openOrder := rfl
@[simp] theorem State.setStation_points (n : Station) (r : StationRec) : (s.setStation n r).points = s.points := rfl
@[simp] theorem State.setStation_arb (n : Station) (r : StationRec) : (s.setStation n r).arb = s.arb := rfl
@[simp] theorem State.setStation_cycle (n : Station) (r : StationRec) : (s.setStation n r).cycle = s.cycle := rfl
@[simp] theorem State.setStation_stage (n : Station) (r : StationRec) : (s.setStation n r).stage = s.stage := rfl
@[simp] theorem State.setStation_turret (n : Station) (r : StationRec) : (s.setStation n r).turret = s.turret := rfl
@[simp] theorem State.setStation_acq (n : Station) (r : StationRec) : (s.setStation n r).acq = s.acq := rfl
@[simp] theorem State.setStation_act (n : Station) (r : StationRec) : (s.setStation n r).act = s.act := rfl
@[simp] theorem State.setStation_pins (n : Station) (r : StationRec) : (s.setStation n r).pins = s.pins := rfl
@[simp] theorem State.setStation_cap (n : Station) (r : StationRec) : (s.setStation n r).cap = s.cap := rfl
@[simp] theorem State.setStation_frames (n : Station) (r : StationRec) : (s.setStation n r).frames = s.frames := rfl
@[simp] theorem State.setStation_meas (n : Station) (r : StationRec) : (s.setStation n r).meas = s.meas := rfl
@[simp] theorem State.setStation_results (n : Station) (r : StationRec) : (s.setStation n r).results = s.results := rfl
@[simp] theorem State.setStation_map (n : Station) (r : StationRec) : (s.setStation n r).map = s.map := rfl
@[simp] theorem State.setStation_settings (n : Station) (r : StationRec) : (s.setStation n r).settings = s.settings := rfl
@[simp] theorem State.setStation_verif (n : Station) (r : StationRec) : (s.setStation n r).verif = s.verif := rfl
@[simp] theorem State.setStation_selftest (n : Station) (r : StationRec) : (s.setStation n r).selftest = s.selftest := rfl
@[simp] theorem State.setStation_freeCount (n : Station) (r : StationRec) : (s.setStation n r).freeCount = s.freeCount := rfl

/-! ## onCycle -/

@[simp] theorem onCycle_pending (f : Cycle → Cycle) : (onCycle f s).pending = s.pending := rfl
@[simp] theorem onCycle_ports (f : Cycle → Cycle) : (onCycle f s).ports = s.ports := rfl
@[simp] theorem onCycle_spi (f : Cycle → Cycle) : (onCycle f s).spi = s.spi := rfl
@[simp] theorem onCycle_jobs (f : Cycle → Cycle) : (onCycle f s).jobs = s.jobs := rfl
@[simp] theorem onCycle_openOrder (f : Cycle → Cycle) : (onCycle f s).openOrder = s.openOrder := rfl
@[simp] theorem onCycle_points (f : Cycle → Cycle) : (onCycle f s).points = s.points := rfl
@[simp] theorem onCycle_arb (f : Cycle → Cycle) : (onCycle f s).arb = s.arb := rfl
@[simp] theorem onCycle_stage (f : Cycle → Cycle) : (onCycle f s).stage = s.stage := rfl
@[simp] theorem onCycle_turret (f : Cycle → Cycle) : (onCycle f s).turret = s.turret := rfl
@[simp] theorem onCycle_acq (f : Cycle → Cycle) : (onCycle f s).acq = s.acq := rfl
@[simp] theorem onCycle_act (f : Cycle → Cycle) : (onCycle f s).act = s.act := rfl
@[simp] theorem onCycle_pins (f : Cycle → Cycle) : (onCycle f s).pins = s.pins := rfl
@[simp] theorem onCycle_cap (f : Cycle → Cycle) : (onCycle f s).cap = s.cap := rfl
@[simp] theorem onCycle_frames (f : Cycle → Cycle) : (onCycle f s).frames = s.frames := rfl
@[simp] theorem onCycle_meas (f : Cycle → Cycle) : (onCycle f s).meas = s.meas := rfl
@[simp] theorem onCycle_results (f : Cycle → Cycle) : (onCycle f s).results = s.results := rfl
@[simp] theorem onCycle_map (f : Cycle → Cycle) : (onCycle f s).map = s.map := rfl
@[simp] theorem onCycle_cal (f : Cycle → Cycle) : (onCycle f s).cal = s.cal := rfl
@[simp] theorem onCycle_settings (f : Cycle → Cycle) : (onCycle f s).settings = s.settings := rfl
@[simp] theorem onCycle_verif (f : Cycle → Cycle) : (onCycle f s).verif = s.verif := rfl
@[simp] theorem onCycle_selftest (f : Cycle → Cycle) : (onCycle f s).selftest = s.selftest := rfl
@[simp] theorem onCycle_freeCount (f : Cycle → Cycle) : (onCycle f s).freeCount = s.freeCount := rfl
@[simp] theorem onCycle_cycle (f : Cycle → Cycle) : (onCycle f s).cycle = f s.cycle := rfl

/-! ## onAct -/

@[simp] theorem onAct_pending (f : Actuator → Actuator) : (onAct f s).pending = s.pending := rfl
@[simp] theorem onAct_ports (f : Actuator → Actuator) : (onAct f s).ports = s.ports := rfl
@[simp] theorem onAct_spi (f : Actuator → Actuator) : (onAct f s).spi = s.spi := rfl
@[simp] theorem onAct_jobs (f : Actuator → Actuator) : (onAct f s).jobs = s.jobs := rfl
@[simp] theorem onAct_openOrder (f : Actuator → Actuator) : (onAct f s).openOrder = s.openOrder := rfl
@[simp] theorem onAct_points (f : Actuator → Actuator) : (onAct f s).points = s.points := rfl
@[simp] theorem onAct_arb (f : Actuator → Actuator) : (onAct f s).arb = s.arb := rfl
@[simp] theorem onAct_cycle (f : Actuator → Actuator) : (onAct f s).cycle = s.cycle := rfl
@[simp] theorem onAct_stage (f : Actuator → Actuator) : (onAct f s).stage = s.stage := rfl
@[simp] theorem onAct_turret (f : Actuator → Actuator) : (onAct f s).turret = s.turret := rfl
@[simp] theorem onAct_acq (f : Actuator → Actuator) : (onAct f s).acq = s.acq := rfl
@[simp] theorem onAct_pins (f : Actuator → Actuator) : (onAct f s).pins = s.pins := rfl
@[simp] theorem onAct_cap (f : Actuator → Actuator) : (onAct f s).cap = s.cap := rfl
@[simp] theorem onAct_frames (f : Actuator → Actuator) : (onAct f s).frames = s.frames := rfl
@[simp] theorem onAct_meas (f : Actuator → Actuator) : (onAct f s).meas = s.meas := rfl
@[simp] theorem onAct_results (f : Actuator → Actuator) : (onAct f s).results = s.results := rfl
@[simp] theorem onAct_map (f : Actuator → Actuator) : (onAct f s).map = s.map := rfl
@[simp] theorem onAct_cal (f : Actuator → Actuator) : (onAct f s).cal = s.cal := rfl
@[simp] theorem onAct_settings (f : Actuator → Actuator) : (onAct f s).settings = s.settings := rfl
@[simp] theorem onAct_verif (f : Actuator → Actuator) : (onAct f s).verif = s.verif := rfl
@[simp] theorem onAct_selftest (f : Actuator → Actuator) : (onAct f s).selftest = s.selftest := rfl
@[simp] theorem onAct_freeCount (f : Actuator → Actuator) : (onAct f s).freeCount = s.freeCount := rfl
@[simp] theorem onAct_act (f : Actuator → Actuator) : (onAct f s).act = f s.act := rfl

/-! ## setTurret -/

@[simp] theorem setTurret_pending (st : TurretState) (sub : Option SubReason) : (setTurret st sub s).pending = s.pending := rfl
@[simp] theorem setTurret_ports (st : TurretState) (sub : Option SubReason) : (setTurret st sub s).ports = s.ports := rfl
@[simp] theorem setTurret_spi (st : TurretState) (sub : Option SubReason) : (setTurret st sub s).spi = s.spi := rfl
@[simp] theorem setTurret_jobs (st : TurretState) (sub : Option SubReason) : (setTurret st sub s).jobs = s.jobs := rfl
@[simp] theorem setTurret_openOrder (st : TurretState) (sub : Option SubReason) : (setTurret st sub s).openOrder = s.openOrder := rfl
@[simp] theorem setTurret_points (st : TurretState) (sub : Option SubReason) : (setTurret st sub s).points = s.points := rfl
@[simp] theorem setTurret_arb (st : TurretState) (sub : Option SubReason) : (setTurret st sub s).arb = s.arb := rfl
@[simp] theorem setTurret_cycle (st : TurretState) (sub : Option SubReason) : (setTurret st sub s).cycle = s.cycle := rfl
@[simp] theorem setTurret_stage (st : TurretState) (sub : Option SubReason) : (setTurret st sub s).stage = s.stage := rfl
@[simp] theorem setTurret_acq (st : TurretState) (sub : Option SubReason) : (setTurret st sub s).acq = s.acq := rfl
@[simp] theorem setTurret_act (st : TurretState) (sub : Option SubReason) : (setTurret st sub s).act = s.act := rfl
@[simp] theorem setTurret_pins (st : TurretState) (sub : Option SubReason) : (setTurret st sub s).pins = s.pins := rfl
@[simp] theorem setTurret_cap (st : TurretState) (sub : Option SubReason) : (setTurret st sub s).cap = s.cap := rfl
@[simp] theorem setTurret_frames (st : TurretState) (sub : Option SubReason) : (setTurret st sub s).frames = s.frames := rfl
@[simp] theorem setTurret_meas (st : TurretState) (sub : Option SubReason) : (setTurret st sub s).meas = s.meas := rfl
@[simp] theorem setTurret_results (st : TurretState) (sub : Option SubReason) : (setTurret st sub s).results = s.results := rfl
@[simp] theorem setTurret_map (st : TurretState) (sub : Option SubReason) : (setTurret st sub s).map = s.map := rfl
@[simp] theorem setTurret_cal (st : TurretState) (sub : Option SubReason) : (setTurret st sub s).cal = s.cal := rfl
@[simp] theorem setTurret_settings (st : TurretState) (sub : Option SubReason) : (setTurret st sub s).settings = s.settings := rfl
@[simp] theorem setTurret_verif (st : TurretState) (sub : Option SubReason) : (setTurret st sub s).verif = s.verif := rfl
@[simp] theorem setTurret_selftest (st : TurretState) (sub : Option SubReason) : (setTurret st sub s).selftest = s.selftest := rfl
@[simp] theorem setTurret_freeCount (st : TurretState) (sub : Option SubReason) : (setTurret st sub s).freeCount = s.freeCount := rfl
@[simp] theorem setTurret_turret_state (st : TurretState) (sub : Option SubReason) : (setTurret st sub s).turret.state = st := rfl
@[simp] theorem setTurret_turret_lastSub (st : TurretState) (sub : Option SubReason) : (setTurret st sub s).turret.lastSub = sub := rfl
@[simp] theorem setTurret_turret_gated (st : TurretState) (sub : Option SubReason) : (setTurret st sub s).turret.gated = s.turret.gated := rfl
@[simp] theorem setTurret_turret_lastMark (st : TurretState) (sub : Option SubReason) : (setTurret st sub s).turret.lastMark = s.turret.lastMark := rfl

/-! ## setMotion -/

@[simp] theorem setMotion_pending (st : TurretState) (g : Nat) : (setMotion st g s).pending = s.pending := rfl
@[simp] theorem setMotion_ports (st : TurretState) (g : Nat) : (setMotion st g s).ports = s.ports := rfl
@[simp] theorem setMotion_spi (st : TurretState) (g : Nat) : (setMotion st g s).spi = s.spi := rfl
@[simp] theorem setMotion_jobs (st : TurretState) (g : Nat) : (setMotion st g s).jobs = s.jobs := rfl
@[simp] theorem setMotion_openOrder (st : TurretState) (g : Nat) : (setMotion st g s).openOrder = s.openOrder := rfl
@[simp] theorem setMotion_points (st : TurretState) (g : Nat) : (setMotion st g s).points = s.points := rfl
@[simp] theorem setMotion_arb (st : TurretState) (g : Nat) : (setMotion st g s).arb = s.arb := rfl
@[simp] theorem setMotion_cycle (st : TurretState) (g : Nat) : (setMotion st g s).cycle = s.cycle := rfl
@[simp] theorem setMotion_stage (st : TurretState) (g : Nat) : (setMotion st g s).stage = s.stage := rfl
@[simp] theorem setMotion_acq (st : TurretState) (g : Nat) : (setMotion st g s).acq = s.acq := rfl
@[simp] theorem setMotion_act (st : TurretState) (g : Nat) : (setMotion st g s).act = s.act := rfl
@[simp] theorem setMotion_pins (st : TurretState) (g : Nat) : (setMotion st g s).pins = s.pins := rfl
@[simp] theorem setMotion_cap (st : TurretState) (g : Nat) : (setMotion st g s).cap = s.cap := rfl
@[simp] theorem setMotion_frames (st : TurretState) (g : Nat) : (setMotion st g s).frames = s.frames := rfl
@[simp] theorem setMotion_meas (st : TurretState) (g : Nat) : (setMotion st g s).meas = s.meas := rfl
@[simp] theorem setMotion_results (st : TurretState) (g : Nat) : (setMotion st g s).results = s.results := rfl
@[simp] theorem setMotion_map (st : TurretState) (g : Nat) : (setMotion st g s).map = s.map := rfl
@[simp] theorem setMotion_cal (st : TurretState) (g : Nat) : (setMotion st g s).cal = s.cal := rfl
@[simp] theorem setMotion_settings (st : TurretState) (g : Nat) : (setMotion st g s).settings = s.settings := rfl
@[simp] theorem setMotion_verif (st : TurretState) (g : Nat) : (setMotion st g s).verif = s.verif := rfl
@[simp] theorem setMotion_selftest (st : TurretState) (g : Nat) : (setMotion st g s).selftest = s.selftest := rfl
@[simp] theorem setMotion_freeCount (st : TurretState) (g : Nat) : (setMotion st g s).freeCount = s.freeCount := rfl
@[simp] theorem setMotion_turret_state (st : TurretState) (g : Nat) : (setMotion st g s).turret.state = st := rfl
@[simp] theorem setMotion_turret_gated (st : TurretState) (g : Nat) : (setMotion st g s).turret.gated = g := rfl
@[simp] theorem setMotion_turret_lastSub (st : TurretState) (g : Nat) : (setMotion st g s).turret.lastSub = s.turret.lastSub := rfl
@[simp] theorem setMotion_turret_lastMark (st : TurretState) (g : Nat) : (setMotion st g s).turret.lastMark = s.turret.lastMark := rfl

/-! ## reserveSlot -/

@[simp] theorem reserveSlot_pending : (reserveSlot s).pending = s.pending := rfl
@[simp] theorem reserveSlot_ports : (reserveSlot s).ports = s.ports := rfl
@[simp] theorem reserveSlot_spi : (reserveSlot s).spi = s.spi := rfl
@[simp] theorem reserveSlot_jobs : (reserveSlot s).jobs = s.jobs := rfl
@[simp] theorem reserveSlot_openOrder : (reserveSlot s).openOrder = s.openOrder := rfl
@[simp] theorem reserveSlot_points : (reserveSlot s).points = s.points := rfl
@[simp] theorem reserveSlot_arb : (reserveSlot s).arb = s.arb := rfl
@[simp] theorem reserveSlot_cycle : (reserveSlot s).cycle = s.cycle := rfl
@[simp] theorem reserveSlot_stage : (reserveSlot s).stage = s.stage := rfl
@[simp] theorem reserveSlot_turret : (reserveSlot s).turret = s.turret := rfl
@[simp] theorem reserveSlot_acq : (reserveSlot s).acq = s.acq := rfl
@[simp] theorem reserveSlot_act : (reserveSlot s).act = s.act := rfl
@[simp] theorem reserveSlot_pins : (reserveSlot s).pins = s.pins := rfl
@[simp] theorem reserveSlot_cap : (reserveSlot s).cap = s.cap := rfl
@[simp] theorem reserveSlot_frames : (reserveSlot s).frames = s.frames := rfl
@[simp] theorem reserveSlot_meas : (reserveSlot s).meas = s.meas := rfl
@[simp] theorem reserveSlot_map : (reserveSlot s).map = s.map := rfl
@[simp] theorem reserveSlot_cal : (reserveSlot s).cal = s.cal := rfl
@[simp] theorem reserveSlot_settings : (reserveSlot s).settings = s.settings := rfl
@[simp] theorem reserveSlot_verif : (reserveSlot s).verif = s.verif := rfl
@[simp] theorem reserveSlot_selftest : (reserveSlot s).selftest = s.selftest := rfl
@[simp] theorem reserveSlot_freeCount : (reserveSlot s).freeCount = s.freeCount := rfl
@[simp] theorem reserveSlot_results_reserved : (reserveSlot s).results.reserved = s.results.reserved + 1 := rfl
@[simp] theorem reserveSlot_results_untaken : (reserveSlot s).results.untaken = s.results.untaken := rfl
@[simp] theorem reserveSlot_results_taken : (reserveSlot s).results.taken = s.results.taken := rfl
@[simp] theorem reserveSlot_results_counter : (reserveSlot s).results.counter = s.results.counter := rfl

/-! ## addMapEntry -/

@[simp] theorem addMapEntry_pending (e : MapEntry) : (addMapEntry e s).pending = s.pending := rfl
@[simp] theorem addMapEntry_ports (e : MapEntry) : (addMapEntry e s).ports = s.ports := rfl
@[simp] theorem addMapEntry_spi (e : MapEntry) : (addMapEntry e s).spi = s.spi := rfl
@[simp] theorem addMapEntry_jobs (e : MapEntry) : (addMapEntry e s).jobs = s.jobs := rfl
@[simp] theorem addMapEntry_openOrder (e : MapEntry) : (addMapEntry e s).openOrder = s.openOrder := rfl
@[simp] theorem addMapEntry_points (e : MapEntry) : (addMapEntry e s).points = s.points := rfl
@[simp] theorem addMapEntry_arb (e : MapEntry) : (addMapEntry e s).arb = s.arb := rfl
@[simp] theorem addMapEntry_cycle (e : MapEntry) : (addMapEntry e s).cycle = s.cycle := rfl
@[simp] theorem addMapEntry_stage (e : MapEntry) : (addMapEntry e s).stage = s.stage := rfl
@[simp] theorem addMapEntry_turret (e : MapEntry) : (addMapEntry e s).turret = s.turret := rfl
@[simp] theorem addMapEntry_acq (e : MapEntry) : (addMapEntry e s).acq = s.acq := rfl
@[simp] theorem addMapEntry_act (e : MapEntry) : (addMapEntry e s).act = s.act := rfl
@[simp] theorem addMapEntry_pins (e : MapEntry) : (addMapEntry e s).pins = s.pins := rfl
@[simp] theorem addMapEntry_cap (e : MapEntry) : (addMapEntry e s).cap = s.cap := rfl
@[simp] theorem addMapEntry_frames (e : MapEntry) : (addMapEntry e s).frames = s.frames := rfl
@[simp] theorem addMapEntry_meas (e : MapEntry) : (addMapEntry e s).meas = s.meas := rfl
@[simp] theorem addMapEntry_results (e : MapEntry) : (addMapEntry e s).results = s.results := rfl
@[simp] theorem addMapEntry_cal (e : MapEntry) : (addMapEntry e s).cal = s.cal := rfl
@[simp] theorem addMapEntry_settings (e : MapEntry) : (addMapEntry e s).settings = s.settings := rfl
@[simp] theorem addMapEntry_verif (e : MapEntry) : (addMapEntry e s).verif = s.verif := rfl
@[simp] theorem addMapEntry_selftest (e : MapEntry) : (addMapEntry e s).selftest = s.selftest := rfl
@[simp] theorem addMapEntry_freeCount (e : MapEntry) : (addMapEntry e s).freeCount = s.freeCount := rfl

/-! ## lapseWhere -/

@[simp] theorem lapseWhere_pending (f : VerifEntry → Bool) : (lapseWhere f s).pending = s.pending := rfl
@[simp] theorem lapseWhere_ports (f : VerifEntry → Bool) : (lapseWhere f s).ports = s.ports := rfl
@[simp] theorem lapseWhere_spi (f : VerifEntry → Bool) : (lapseWhere f s).spi = s.spi := rfl
@[simp] theorem lapseWhere_jobs (f : VerifEntry → Bool) : (lapseWhere f s).jobs = s.jobs := rfl
@[simp] theorem lapseWhere_openOrder (f : VerifEntry → Bool) : (lapseWhere f s).openOrder = s.openOrder := rfl
@[simp] theorem lapseWhere_points (f : VerifEntry → Bool) : (lapseWhere f s).points = s.points := rfl
@[simp] theorem lapseWhere_arb (f : VerifEntry → Bool) : (lapseWhere f s).arb = s.arb := rfl
@[simp] theorem lapseWhere_cycle (f : VerifEntry → Bool) : (lapseWhere f s).cycle = s.cycle := rfl
@[simp] theorem lapseWhere_stage (f : VerifEntry → Bool) : (lapseWhere f s).stage = s.stage := rfl
@[simp] theorem lapseWhere_turret (f : VerifEntry → Bool) : (lapseWhere f s).turret = s.turret := rfl
@[simp] theorem lapseWhere_acq (f : VerifEntry → Bool) : (lapseWhere f s).acq = s.acq := rfl
@[simp] theorem lapseWhere_act (f : VerifEntry → Bool) : (lapseWhere f s).act = s.act := rfl
@[simp] theorem lapseWhere_pins (f : VerifEntry → Bool) : (lapseWhere f s).pins = s.pins := rfl
@[simp] theorem lapseWhere_cap (f : VerifEntry → Bool) : (lapseWhere f s).cap = s.cap := rfl
@[simp] theorem lapseWhere_frames (f : VerifEntry → Bool) : (lapseWhere f s).frames = s.frames := rfl
@[simp] theorem lapseWhere_meas (f : VerifEntry → Bool) : (lapseWhere f s).meas = s.meas := rfl
@[simp] theorem lapseWhere_results (f : VerifEntry → Bool) : (lapseWhere f s).results = s.results := rfl
@[simp] theorem lapseWhere_map (f : VerifEntry → Bool) : (lapseWhere f s).map = s.map := rfl
@[simp] theorem lapseWhere_cal (f : VerifEntry → Bool) : (lapseWhere f s).cal = s.cal := rfl
@[simp] theorem lapseWhere_settings (f : VerifEntry → Bool) : (lapseWhere f s).settings = s.settings := rfl
@[simp] theorem lapseWhere_selftest (f : VerifEntry → Bool) : (lapseWhere f s).selftest = s.selftest := rfl
@[simp] theorem lapseWhere_freeCount (f : VerifEntry → Bool) : (lapseWhere f s).freeCount = s.freeCount := rfl
@[simp] theorem lapseWhere_verif_counter (f : VerifEntry → Bool) : (lapseWhere f s).verif.counter = s.verif.counter := rfl
@[simp] theorem lapseWhere_verif_entries (f : VerifEntry → Bool) : (lapseWhere f s).verif.entries = s.verif.entries.map fun e => if f e then e.lapse else e := rfl

/-! ## restartWhere -/

@[simp] theorem restartWhere_pending (f : JobParams → Bool) : (restartWhere f s).pending = s.pending := rfl
@[simp] theorem restartWhere_ports (f : JobParams → Bool) : (restartWhere f s).ports = s.ports := rfl
@[simp] theorem restartWhere_spi (f : JobParams → Bool) : (restartWhere f s).spi = s.spi := rfl
@[simp] theorem restartWhere_openOrder (f : JobParams → Bool) : (restartWhere f s).openOrder = s.openOrder := rfl
@[simp] theorem restartWhere_points (f : JobParams → Bool) : (restartWhere f s).points = s.points := rfl
@[simp] theorem restartWhere_arb (f : JobParams → Bool) : (restartWhere f s).arb = s.arb := rfl
@[simp] theorem restartWhere_cycle (f : JobParams → Bool) : (restartWhere f s).cycle = s.cycle := rfl
@[simp] theorem restartWhere_stage (f : JobParams → Bool) : (restartWhere f s).stage = s.stage := rfl
@[simp] theorem restartWhere_turret (f : JobParams → Bool) : (restartWhere f s).turret = s.turret := rfl
@[simp] theorem restartWhere_acq (f : JobParams → Bool) : (restartWhere f s).acq = s.acq := rfl
@[simp] theorem restartWhere_act (f : JobParams → Bool) : (restartWhere f s).act = s.act := rfl
@[simp] theorem restartWhere_pins (f : JobParams → Bool) : (restartWhere f s).pins = s.pins := rfl
@[simp] theorem restartWhere_cap (f : JobParams → Bool) : (restartWhere f s).cap = s.cap := rfl
@[simp] theorem restartWhere_frames (f : JobParams → Bool) : (restartWhere f s).frames = s.frames := rfl
@[simp] theorem restartWhere_meas (f : JobParams → Bool) : (restartWhere f s).meas = s.meas := rfl
@[simp] theorem restartWhere_results (f : JobParams → Bool) : (restartWhere f s).results = s.results := rfl
@[simp] theorem restartWhere_map (f : JobParams → Bool) : (restartWhere f s).map = s.map := rfl
@[simp] theorem restartWhere_cal (f : JobParams → Bool) : (restartWhere f s).cal = s.cal := rfl
@[simp] theorem restartWhere_settings (f : JobParams → Bool) : (restartWhere f s).settings = s.settings := rfl
@[simp] theorem restartWhere_verif (f : JobParams → Bool) : (restartWhere f s).verif = s.verif := rfl
@[simp] theorem restartWhere_selftest (f : JobParams → Bool) : (restartWhere f s).selftest = s.selftest := rfl
@[simp] theorem restartWhere_freeCount (f : JobParams → Bool) : (restartWhere f s).freeCount = s.freeCount := rfl

/-! ## dropGranted -/

@[simp] theorem dropGranted_pending (i : Slot) : (dropGranted i s).pending = s.pending := rfl
@[simp] theorem dropGranted_ports (i : Slot) : (dropGranted i s).ports = s.ports := rfl
@[simp] theorem dropGranted_spi (i : Slot) : (dropGranted i s).spi = s.spi := rfl
@[simp] theorem dropGranted_jobs (i : Slot) : (dropGranted i s).jobs = s.jobs := rfl
@[simp] theorem dropGranted_openOrder (i : Slot) : (dropGranted i s).openOrder = s.openOrder := rfl
@[simp] theorem dropGranted_arb (i : Slot) : (dropGranted i s).arb = s.arb := rfl
@[simp] theorem dropGranted_cycle (i : Slot) : (dropGranted i s).cycle = s.cycle := rfl
@[simp] theorem dropGranted_stage (i : Slot) : (dropGranted i s).stage = s.stage := rfl
@[simp] theorem dropGranted_turret (i : Slot) : (dropGranted i s).turret = s.turret := rfl
@[simp] theorem dropGranted_acq (i : Slot) : (dropGranted i s).acq = s.acq := rfl
@[simp] theorem dropGranted_act (i : Slot) : (dropGranted i s).act = s.act := rfl
@[simp] theorem dropGranted_pins (i : Slot) : (dropGranted i s).pins = s.pins := rfl
@[simp] theorem dropGranted_cap (i : Slot) : (dropGranted i s).cap = s.cap := rfl
@[simp] theorem dropGranted_frames (i : Slot) : (dropGranted i s).frames = s.frames := rfl
@[simp] theorem dropGranted_meas (i : Slot) : (dropGranted i s).meas = s.meas := rfl
@[simp] theorem dropGranted_results (i : Slot) : (dropGranted i s).results = s.results := rfl
@[simp] theorem dropGranted_map (i : Slot) : (dropGranted i s).map = s.map := rfl
@[simp] theorem dropGranted_cal (i : Slot) : (dropGranted i s).cal = s.cal := rfl
@[simp] theorem dropGranted_settings (i : Slot) : (dropGranted i s).settings = s.settings := rfl
@[simp] theorem dropGranted_verif (i : Slot) : (dropGranted i s).verif = s.verif := rfl
@[simp] theorem dropGranted_selftest (i : Slot) : (dropGranted i s).selftest = s.selftest := rfl
@[simp] theorem dropGranted_freeCount (i : Slot) : (dropGranted i s).freeCount = s.freeCount := rfl

/-! ## clearDue -/

@[simp] theorem clearDue_pending : (clearDue s).pending = s.pending := rfl
@[simp] theorem clearDue_ports : (clearDue s).ports = s.ports := rfl
@[simp] theorem clearDue_spi : (clearDue s).spi = s.spi := rfl
@[simp] theorem clearDue_jobs : (clearDue s).jobs = s.jobs := rfl
@[simp] theorem clearDue_openOrder : (clearDue s).openOrder = s.openOrder := rfl
@[simp] theorem clearDue_points : (clearDue s).points = s.points := rfl
@[simp] theorem clearDue_cycle : (clearDue s).cycle = s.cycle := rfl
@[simp] theorem clearDue_stage : (clearDue s).stage = s.stage := rfl
@[simp] theorem clearDue_turret : (clearDue s).turret = s.turret := rfl
@[simp] theorem clearDue_acq : (clearDue s).acq = s.acq := rfl
@[simp] theorem clearDue_act : (clearDue s).act = s.act := rfl
@[simp] theorem clearDue_pins : (clearDue s).pins = s.pins := rfl
@[simp] theorem clearDue_cap : (clearDue s).cap = s.cap := rfl
@[simp] theorem clearDue_frames : (clearDue s).frames = s.frames := rfl
@[simp] theorem clearDue_meas : (clearDue s).meas = s.meas := rfl
@[simp] theorem clearDue_results : (clearDue s).results = s.results := rfl
@[simp] theorem clearDue_map : (clearDue s).map = s.map := rfl
@[simp] theorem clearDue_cal : (clearDue s).cal = s.cal := rfl
@[simp] theorem clearDue_settings : (clearDue s).settings = s.settings := rfl
@[simp] theorem clearDue_verif : (clearDue s).verif = s.verif := rfl
@[simp] theorem clearDue_selftest : (clearDue s).selftest = s.selftest := rfl
@[simp] theorem clearDue_freeCount : (clearDue s).freeCount = s.freeCount := rfl
@[simp] theorem clearDue_arb_due : (clearDue s).arb.due = false := rfl
@[simp] theorem clearDue_arb_head : (clearDue s).arb.head = s.arb.head := rfl
@[simp] theorem clearDue_arb_wait : (clearDue s).arb.wait = s.arb.wait := rfl
@[simp] theorem clearDue_arb_holder : (clearDue s).arb.holder = s.arb.holder := rfl
@[simp] theorem clearDue_arb_burst : (clearDue s).arb.burst = s.arb.burst := rfl
@[simp] theorem clearDue_arb_rotation : (clearDue s).arb.rotation = s.arb.rotation := rfl
@[simp] theorem clearDue_arb_first : (clearDue s).arb.first = s.arb.first := rfl
@[simp] theorem clearDue_arb_last : (clearDue s).arb.last = s.arb.last := rfl

/-! ## idleHead -/

@[simp] theorem idleHead_pending : (idleHead s).pending = s.pending := rfl
@[simp] theorem idleHead_ports : (idleHead s).ports = s.ports := rfl
@[simp] theorem idleHead_spi : (idleHead s).spi = s.spi := rfl
@[simp] theorem idleHead_jobs : (idleHead s).jobs = s.jobs := rfl
@[simp] theorem idleHead_openOrder : (idleHead s).openOrder = s.openOrder := rfl
@[simp] theorem idleHead_points : (idleHead s).points = s.points := rfl
@[simp] theorem idleHead_cycle : (idleHead s).cycle = s.cycle := rfl
@[simp] theorem idleHead_stage : (idleHead s).stage = s.stage := rfl
@[simp] theorem idleHead_turret : (idleHead s).turret = s.turret := rfl
@[simp] theorem idleHead_acq : (idleHead s).acq = s.acq := rfl
@[simp] theorem idleHead_act : (idleHead s).act = s.act := rfl
@[simp] theorem idleHead_pins : (idleHead s).pins = s.pins := rfl
@[simp] theorem idleHead_cap : (idleHead s).cap = s.cap := rfl
@[simp] theorem idleHead_frames : (idleHead s).frames = s.frames := rfl
@[simp] theorem idleHead_meas : (idleHead s).meas = s.meas := rfl
@[simp] theorem idleHead_results : (idleHead s).results = s.results := rfl
@[simp] theorem idleHead_map : (idleHead s).map = s.map := rfl
@[simp] theorem idleHead_cal : (idleHead s).cal = s.cal := rfl
@[simp] theorem idleHead_settings : (idleHead s).settings = s.settings := rfl
@[simp] theorem idleHead_verif : (idleHead s).verif = s.verif := rfl
@[simp] theorem idleHead_selftest : (idleHead s).selftest = s.selftest := rfl
@[simp] theorem idleHead_freeCount : (idleHead s).freeCount = s.freeCount := rfl
@[simp] theorem idleHead_arb_due : (idleHead s).arb.due = true := rfl
@[simp] theorem idleHead_arb_head : (idleHead s).arb.head = .idle := rfl
@[simp] theorem idleHead_arb_wait : (idleHead s).arb.wait = s.arb.wait := rfl
@[simp] theorem idleHead_arb_holder : (idleHead s).arb.holder = s.arb.holder := rfl
@[simp] theorem idleHead_arb_burst : (idleHead s).arb.burst = s.arb.burst := rfl
@[simp] theorem idleHead_arb_rotation : (idleHead s).arb.rotation = s.arb.rotation := rfl
@[simp] theorem idleHead_arb_first : (idleHead s).arb.first = s.arb.first := rfl
@[simp] theorem idleHead_arb_last : (idleHead s).arb.last = s.arb.last := rfl

/-! ## storeFault -/

@[simp] theorem storeFault_pending (f : FaultRecord) : (storeFault f s).pending = s.pending := rfl
@[simp] theorem storeFault_ports (f : FaultRecord) : (storeFault f s).ports = s.ports := rfl
@[simp] theorem storeFault_spi (f : FaultRecord) : (storeFault f s).spi = s.spi := rfl
@[simp] theorem storeFault_jobs (f : FaultRecord) : (storeFault f s).jobs = s.jobs := rfl
@[simp] theorem storeFault_openOrder (f : FaultRecord) : (storeFault f s).openOrder = s.openOrder := rfl
@[simp] theorem storeFault_points (f : FaultRecord) : (storeFault f s).points = s.points := rfl
@[simp] theorem storeFault_cycle (f : FaultRecord) : (storeFault f s).cycle = s.cycle := rfl
@[simp] theorem storeFault_stage (f : FaultRecord) : (storeFault f s).stage = s.stage := rfl
@[simp] theorem storeFault_turret (f : FaultRecord) : (storeFault f s).turret = s.turret := rfl
@[simp] theorem storeFault_acq (f : FaultRecord) : (storeFault f s).acq = s.acq := rfl
@[simp] theorem storeFault_act (f : FaultRecord) : (storeFault f s).act = s.act := rfl
@[simp] theorem storeFault_pins (f : FaultRecord) : (storeFault f s).pins = s.pins := rfl
@[simp] theorem storeFault_cap (f : FaultRecord) : (storeFault f s).cap = s.cap := rfl
@[simp] theorem storeFault_frames (f : FaultRecord) : (storeFault f s).frames = s.frames := rfl
@[simp] theorem storeFault_meas (f : FaultRecord) : (storeFault f s).meas = s.meas := rfl
@[simp] theorem storeFault_results (f : FaultRecord) : (storeFault f s).results = s.results := rfl
@[simp] theorem storeFault_map (f : FaultRecord) : (storeFault f s).map = s.map := rfl
@[simp] theorem storeFault_cal (f : FaultRecord) : (storeFault f s).cal = s.cal := rfl
@[simp] theorem storeFault_settings (f : FaultRecord) : (storeFault f s).settings = s.settings := rfl
@[simp] theorem storeFault_verif (f : FaultRecord) : (storeFault f s).verif = s.verif := rfl
@[simp] theorem storeFault_selftest (f : FaultRecord) : (storeFault f s).selftest = s.selftest := rfl
@[simp] theorem storeFault_freeCount (f : FaultRecord) : (storeFault f s).freeCount = s.freeCount := rfl
@[simp] theorem storeFault_arb_last (f : FaultRecord) : (storeFault f s).arb.last = some f := rfl
@[simp] theorem storeFault_arb_first (f : FaultRecord) : (storeFault f s).arb.first = some (s.arb.first.getD f) := rfl
@[simp] theorem storeFault_arb_head (f : FaultRecord) : (storeFault f s).arb.head = s.arb.head := rfl
@[simp] theorem storeFault_arb_due (f : FaultRecord) : (storeFault f s).arb.due = s.arb.due := rfl
@[simp] theorem storeFault_arb_rotation (f : FaultRecord) : (storeFault f s).arb.rotation = s.arb.rotation := rfl
@[simp] theorem storeFault_arb_holder (f : FaultRecord) : (storeFault f s).arb.holder = s.arb.holder := rfl
@[simp] theorem storeFault_arb_burst (f : FaultRecord) : (storeFault f s).arb.burst = s.arb.burst := rfl
@[simp] theorem storeFault_arb_wait (f : FaultRecord) : (storeFault f s).arb.wait = s.arb.wait := rfl

/-! ## measIdle -/

@[simp] theorem measIdle_pending (m : Summary) : (measIdle m s).pending = s.pending := rfl
@[simp] theorem measIdle_ports (m : Summary) : (measIdle m s).ports = s.ports := rfl
@[simp] theorem measIdle_spi (m : Summary) : (measIdle m s).spi = s.spi := rfl
@[simp] theorem measIdle_jobs (m : Summary) : (measIdle m s).jobs = s.jobs := rfl
@[simp] theorem measIdle_openOrder (m : Summary) : (measIdle m s).openOrder = s.openOrder := rfl
@[simp] theorem measIdle_points (m : Summary) : (measIdle m s).points = s.points := rfl
@[simp] theorem measIdle_arb (m : Summary) : (measIdle m s).arb = s.arb := rfl
@[simp] theorem measIdle_cycle (m : Summary) : (measIdle m s).cycle = s.cycle := rfl
@[simp] theorem measIdle_stage (m : Summary) : (measIdle m s).stage = s.stage := rfl
@[simp] theorem measIdle_turret (m : Summary) : (measIdle m s).turret = s.turret := rfl
@[simp] theorem measIdle_acq (m : Summary) : (measIdle m s).acq = s.acq := rfl
@[simp] theorem measIdle_act (m : Summary) : (measIdle m s).act = s.act := rfl
@[simp] theorem measIdle_pins (m : Summary) : (measIdle m s).pins = s.pins := rfl
@[simp] theorem measIdle_cap (m : Summary) : (measIdle m s).cap = s.cap := rfl
@[simp] theorem measIdle_frames (m : Summary) : (measIdle m s).frames = s.frames := rfl
@[simp] theorem measIdle_results (m : Summary) : (measIdle m s).results = s.results := rfl
@[simp] theorem measIdle_map (m : Summary) : (measIdle m s).map = s.map := rfl
@[simp] theorem measIdle_cal (m : Summary) : (measIdle m s).cal = s.cal := rfl
@[simp] theorem measIdle_settings (m : Summary) : (measIdle m s).settings = s.settings := rfl
@[simp] theorem measIdle_verif (m : Summary) : (measIdle m s).verif = s.verif := rfl
@[simp] theorem measIdle_selftest (m : Summary) : (measIdle m s).selftest = s.selftest := rfl
@[simp] theorem measIdle_freeCount (m : Summary) : (measIdle m s).freeCount = s.freeCount := rfl
@[simp] theorem measIdle_meas_run (m : Summary) : (measIdle m s).meas.run = none := rfl
@[simp] theorem measIdle_meas_summary (m : Summary) : (measIdle m s).meas.summary = some m := rfl

/-! ## captureIdle -/

@[simp] theorem captureIdle_pending : (captureIdle s).pending = s.pending := rfl
@[simp] theorem captureIdle_ports : (captureIdle s).ports = s.ports := rfl
@[simp] theorem captureIdle_spi : (captureIdle s).spi = s.spi := rfl
@[simp] theorem captureIdle_jobs : (captureIdle s).jobs = s.jobs := rfl
@[simp] theorem captureIdle_openOrder : (captureIdle s).openOrder = s.openOrder := rfl
@[simp] theorem captureIdle_points : (captureIdle s).points = s.points := rfl
@[simp] theorem captureIdle_arb : (captureIdle s).arb = s.arb := rfl
@[simp] theorem captureIdle_cycle : (captureIdle s).cycle = s.cycle := rfl
@[simp] theorem captureIdle_stage : (captureIdle s).stage = s.stage := rfl
@[simp] theorem captureIdle_turret : (captureIdle s).turret = s.turret := rfl
@[simp] theorem captureIdle_acq : (captureIdle s).acq = s.acq := rfl
@[simp] theorem captureIdle_act : (captureIdle s).act = s.act := rfl
@[simp] theorem captureIdle_pins : (captureIdle s).pins = s.pins := rfl
@[simp] theorem captureIdle_frames : (captureIdle s).frames = s.frames := rfl
@[simp] theorem captureIdle_meas : (captureIdle s).meas = s.meas := rfl
@[simp] theorem captureIdle_results : (captureIdle s).results = s.results := rfl
@[simp] theorem captureIdle_map : (captureIdle s).map = s.map := rfl
@[simp] theorem captureIdle_cal : (captureIdle s).cal = s.cal := rfl
@[simp] theorem captureIdle_settings : (captureIdle s).settings = s.settings := rfl
@[simp] theorem captureIdle_verif : (captureIdle s).verif = s.verif := rfl
@[simp] theorem captureIdle_selftest : (captureIdle s).selftest = s.selftest := rfl
@[simp] theorem captureIdle_freeCount : (captureIdle s).freeCount = s.freeCount := rfl
@[simp] theorem captureIdle_cap_state : (captureIdle s).cap.state = .idle := rfl
@[simp] theorem captureIdle_cap_request : (captureIdle s).cap.request = none := rfl
@[simp] theorem captureIdle_cap_roi : (captureIdle s).cap.roi = none := rfl
@[simp] theorem captureIdle_cap_exposure : (captureIdle s).cap.exposure = none := rfl
@[simp] theorem captureIdle_cap_lit : (captureIdle s).cap.lit = [] := rfl
@[simp] theorem captureIdle_cap_frameTimer : (captureIdle s).cap.frameTimer = false := rfl
@[simp] theorem captureIdle_cap_tailDiscard : (captureIdle s).cap.tailDiscard = s.cap.tailDiscard := rfl
@[simp] theorem captureIdle_cap_imageCounter : (captureIdle s).cap.imageCounter = s.cap.imageCounter := rfl
@[simp] theorem captureIdle_cap_lastDetail : (captureIdle s).cap.lastDetail = s.cap.lastDetail := rfl

/-! ## startExposure -/

@[simp] theorem startExposure_pending (e : Exposure) : (startExposure e s).pending = s.pending := rfl
@[simp] theorem startExposure_ports (e : Exposure) : (startExposure e s).ports = s.ports := rfl
@[simp] theorem startExposure_spi (e : Exposure) : (startExposure e s).spi = s.spi := rfl
@[simp] theorem startExposure_jobs (e : Exposure) : (startExposure e s).jobs = s.jobs := rfl
@[simp] theorem startExposure_openOrder (e : Exposure) : (startExposure e s).openOrder = s.openOrder := rfl
@[simp] theorem startExposure_points (e : Exposure) : (startExposure e s).points = s.points := rfl
@[simp] theorem startExposure_arb (e : Exposure) : (startExposure e s).arb = s.arb := rfl
@[simp] theorem startExposure_cycle (e : Exposure) : (startExposure e s).cycle = s.cycle := rfl
@[simp] theorem startExposure_stage (e : Exposure) : (startExposure e s).stage = s.stage := rfl
@[simp] theorem startExposure_turret (e : Exposure) : (startExposure e s).turret = s.turret := rfl
@[simp] theorem startExposure_acq (e : Exposure) : (startExposure e s).acq = s.acq := rfl
@[simp] theorem startExposure_act (e : Exposure) : (startExposure e s).act = s.act := rfl
@[simp] theorem startExposure_pins (e : Exposure) : (startExposure e s).pins = s.pins := rfl
@[simp] theorem startExposure_frames (e : Exposure) : (startExposure e s).frames = s.frames := rfl
@[simp] theorem startExposure_meas (e : Exposure) : (startExposure e s).meas = s.meas := rfl
@[simp] theorem startExposure_results (e : Exposure) : (startExposure e s).results = s.results := rfl
@[simp] theorem startExposure_map (e : Exposure) : (startExposure e s).map = s.map := rfl
@[simp] theorem startExposure_cal (e : Exposure) : (startExposure e s).cal = s.cal := rfl
@[simp] theorem startExposure_settings (e : Exposure) : (startExposure e s).settings = s.settings := rfl
@[simp] theorem startExposure_verif (e : Exposure) : (startExposure e s).verif = s.verif := rfl
@[simp] theorem startExposure_selftest (e : Exposure) : (startExposure e s).selftest = s.selftest := rfl
@[simp] theorem startExposure_freeCount (e : Exposure) : (startExposure e s).freeCount = s.freeCount := rfl
@[simp] theorem startExposure_cap_state (e : Exposure) : (startExposure e s).cap.state = .exposing := rfl
@[simp] theorem startExposure_cap_exposure (e : Exposure) : (startExposure e s).cap.exposure = some e := rfl
@[simp] theorem startExposure_cap_lit (e : Exposure) : (startExposure e s).cap.lit = quadrantsOf e := rfl
@[simp] theorem startExposure_cap_lineCount (e : Exposure) : (startExposure e s).cap.lineCount = 0 := rfl
@[simp] theorem startExposure_cap_frameTimer (e : Exposure) : (startExposure e s).cap.frameTimer = true := rfl
@[simp] theorem startExposure_cap_request (e : Exposure) : (startExposure e s).cap.request = s.cap.request := rfl
@[simp] theorem startExposure_cap_roi (e : Exposure) : (startExposure e s).cap.roi = s.cap.roi := rfl

/-! ## setFrames -/

@[simp] theorem setFrames_pending (m : Memory) : (setFrames m s).pending = s.pending := rfl
@[simp] theorem setFrames_ports (m : Memory) : (setFrames m s).ports = s.ports := rfl
@[simp] theorem setFrames_spi (m : Memory) : (setFrames m s).spi = s.spi := rfl
@[simp] theorem setFrames_jobs (m : Memory) : (setFrames m s).jobs = s.jobs := rfl
@[simp] theorem setFrames_openOrder (m : Memory) : (setFrames m s).openOrder = s.openOrder := rfl
@[simp] theorem setFrames_points (m : Memory) : (setFrames m s).points = s.points := rfl
@[simp] theorem setFrames_arb (m : Memory) : (setFrames m s).arb = s.arb := rfl
@[simp] theorem setFrames_cycle (m : Memory) : (setFrames m s).cycle = s.cycle := rfl
@[simp] theorem setFrames_stage (m : Memory) : (setFrames m s).stage = s.stage := rfl
@[simp] theorem setFrames_turret (m : Memory) : (setFrames m s).turret = s.turret := rfl
@[simp] theorem setFrames_acq (m : Memory) : (setFrames m s).acq = s.acq := rfl
@[simp] theorem setFrames_act (m : Memory) : (setFrames m s).act = s.act := rfl
@[simp] theorem setFrames_pins (m : Memory) : (setFrames m s).pins = s.pins := rfl
@[simp] theorem setFrames_cap (m : Memory) : (setFrames m s).cap = s.cap := rfl
@[simp] theorem setFrames_meas (m : Memory) : (setFrames m s).meas = s.meas := rfl
@[simp] theorem setFrames_results (m : Memory) : (setFrames m s).results = s.results := rfl
@[simp] theorem setFrames_map (m : Memory) : (setFrames m s).map = s.map := rfl
@[simp] theorem setFrames_cal (m : Memory) : (setFrames m s).cal = s.cal := rfl
@[simp] theorem setFrames_settings (m : Memory) : (setFrames m s).settings = s.settings := rfl
@[simp] theorem setFrames_verif (m : Memory) : (setFrames m s).verif = s.verif := rfl
@[simp] theorem setFrames_selftest (m : Memory) : (setFrames m s).selftest = s.selftest := rfl
@[simp] theorem setFrames_freeCount (m : Memory) : (setFrames m s).freeCount = s.freeCount := rfl
@[simp] theorem setFrames_frames_mem (m : Memory) : (setFrames m s).frames.mem = m := rfl
@[simp] theorem setFrames_frames_work (m : Memory) : (setFrames m s).frames.work = s.frames.work := rfl
@[simp] theorem setFrames_frames_lastId (m : Memory) : (setFrames m s).frames.lastId = s.frames.lastId := rfl
@[simp] theorem setFrames_frames_lastHEff (m : Memory) : (setFrames m s).frames.lastHEff = s.frames.lastHEff := rfl

/-! ## dropLast -/

@[simp] theorem dropLast_pending : (dropLast s).pending = s.pending := rfl
@[simp] theorem dropLast_ports : (dropLast s).ports = s.ports := rfl
@[simp] theorem dropLast_spi : (dropLast s).spi = s.spi := rfl
@[simp] theorem dropLast_jobs : (dropLast s).jobs = s.jobs := rfl
@[simp] theorem dropLast_openOrder : (dropLast s).openOrder = s.openOrder := rfl
@[simp] theorem dropLast_points : (dropLast s).points = s.points := rfl
@[simp] theorem dropLast_arb : (dropLast s).arb = s.arb := rfl
@[simp] theorem dropLast_cycle : (dropLast s).cycle = s.cycle := rfl
@[simp] theorem dropLast_stage : (dropLast s).stage = s.stage := rfl
@[simp] theorem dropLast_turret : (dropLast s).turret = s.turret := rfl
@[simp] theorem dropLast_acq : (dropLast s).acq = s.acq := rfl
@[simp] theorem dropLast_act : (dropLast s).act = s.act := rfl
@[simp] theorem dropLast_pins : (dropLast s).pins = s.pins := rfl
@[simp] theorem dropLast_cap : (dropLast s).cap = s.cap := rfl
@[simp] theorem dropLast_meas : (dropLast s).meas = s.meas := rfl
@[simp] theorem dropLast_results : (dropLast s).results = s.results := rfl
@[simp] theorem dropLast_map : (dropLast s).map = s.map := rfl
@[simp] theorem dropLast_cal : (dropLast s).cal = s.cal := rfl
@[simp] theorem dropLast_settings : (dropLast s).settings = s.settings := rfl
@[simp] theorem dropLast_verif : (dropLast s).verif = s.verif := rfl
@[simp] theorem dropLast_selftest : (dropLast s).selftest = s.selftest := rfl
@[simp] theorem dropLast_freeCount : (dropLast s).freeCount = s.freeCount := rfl
@[simp] theorem dropLast_frames_lastId : (dropLast s).frames.lastId = none := rfl
@[simp] theorem dropLast_frames_lastHEff : (dropLast s).frames.lastHEff = none := rfl
@[simp] theorem dropLast_frames_mem : (dropLast s).frames.mem = s.frames.mem := rfl
@[simp] theorem dropLast_frames_work : (dropLast s).frames.work = s.frames.work := rfl

/-! ## nextRound -/

@[simp] theorem nextRound_pending : (nextRound s).pending = s.pending := rfl
@[simp] theorem nextRound_ports : (nextRound s).ports = s.ports := rfl
@[simp] theorem nextRound_spi : (nextRound s).spi = s.spi := rfl
@[simp] theorem nextRound_jobs : (nextRound s).jobs = s.jobs := rfl
@[simp] theorem nextRound_openOrder : (nextRound s).openOrder = s.openOrder := rfl
@[simp] theorem nextRound_points : (nextRound s).points = s.points := rfl
@[simp] theorem nextRound_arb : (nextRound s).arb = s.arb := rfl
@[simp] theorem nextRound_cycle : (nextRound s).cycle = s.cycle := rfl
@[simp] theorem nextRound_stage : (nextRound s).stage = s.stage := rfl
@[simp] theorem nextRound_turret : (nextRound s).turret = s.turret := rfl
@[simp] theorem nextRound_act : (nextRound s).act = s.act := rfl
@[simp] theorem nextRound_pins : (nextRound s).pins = s.pins := rfl
@[simp] theorem nextRound_cap : (nextRound s).cap = s.cap := rfl
@[simp] theorem nextRound_frames : (nextRound s).frames = s.frames := rfl
@[simp] theorem nextRound_meas : (nextRound s).meas = s.meas := rfl
@[simp] theorem nextRound_results : (nextRound s).results = s.results := rfl
@[simp] theorem nextRound_map : (nextRound s).map = s.map := rfl
@[simp] theorem nextRound_cal : (nextRound s).cal = s.cal := rfl
@[simp] theorem nextRound_settings : (nextRound s).settings = s.settings := rfl
@[simp] theorem nextRound_verif : (nextRound s).verif = s.verif := rfl
@[simp] theorem nextRound_selftest : (nextRound s).selftest = s.selftest := rfl
@[simp] theorem nextRound_freeCount : (nextRound s).freeCount = s.freeCount := rfl
@[simp] theorem nextRound_acq_round : (nextRound s).acq.round = s.settings.round := rfl
@[simp] theorem nextRound_acq_refSwitched : (nextRound s).acq.refSwitched = s.acq.refRequested := rfl
@[simp] theorem nextRound_acq_refRequested : (nextRound s).acq.refRequested = false := rfl
@[simp] theorem nextRound_acq_force : (nextRound s).acq.force = s.acq.force := rfl
@[simp] theorem nextRound_acq_depth : (nextRound s).acq.depth = s.acq.depth := rfl
@[simp] theorem nextRound_acq_rounds : (nextRound s).acq.rounds = s.acq.rounds := rfl

/-! ## publishRound -/

@[simp] theorem publishRound_pending (codes : List Word16) (d : Word16) : (publishRound codes d s).pending = s.pending := rfl
@[simp] theorem publishRound_ports (codes : List Word16) (d : Word16) : (publishRound codes d s).ports = s.ports := rfl
@[simp] theorem publishRound_spi (codes : List Word16) (d : Word16) : (publishRound codes d s).spi = s.spi := rfl
@[simp] theorem publishRound_jobs (codes : List Word16) (d : Word16) : (publishRound codes d s).jobs = s.jobs := rfl
@[simp] theorem publishRound_openOrder (codes : List Word16) (d : Word16) : (publishRound codes d s).openOrder = s.openOrder := rfl
@[simp] theorem publishRound_points (codes : List Word16) (d : Word16) : (publishRound codes d s).points = s.points := rfl
@[simp] theorem publishRound_arb (codes : List Word16) (d : Word16) : (publishRound codes d s).arb = s.arb := rfl
@[simp] theorem publishRound_cycle (codes : List Word16) (d : Word16) : (publishRound codes d s).cycle = s.cycle := rfl
@[simp] theorem publishRound_stage (codes : List Word16) (d : Word16) : (publishRound codes d s).stage = s.stage := rfl
@[simp] theorem publishRound_turret (codes : List Word16) (d : Word16) : (publishRound codes d s).turret = s.turret := rfl
@[simp] theorem publishRound_act (codes : List Word16) (d : Word16) : (publishRound codes d s).act = s.act := rfl
@[simp] theorem publishRound_pins (codes : List Word16) (d : Word16) : (publishRound codes d s).pins = s.pins := rfl
@[simp] theorem publishRound_cap (codes : List Word16) (d : Word16) : (publishRound codes d s).cap = s.cap := rfl
@[simp] theorem publishRound_frames (codes : List Word16) (d : Word16) : (publishRound codes d s).frames = s.frames := rfl
@[simp] theorem publishRound_meas (codes : List Word16) (d : Word16) : (publishRound codes d s).meas = s.meas := rfl
@[simp] theorem publishRound_results (codes : List Word16) (d : Word16) : (publishRound codes d s).results = s.results := rfl
@[simp] theorem publishRound_map (codes : List Word16) (d : Word16) : (publishRound codes d s).map = s.map := rfl
@[simp] theorem publishRound_cal (codes : List Word16) (d : Word16) : (publishRound codes d s).cal = s.cal := rfl
@[simp] theorem publishRound_settings (codes : List Word16) (d : Word16) : (publishRound codes d s).settings = s.settings := rfl
@[simp] theorem publishRound_verif (codes : List Word16) (d : Word16) : (publishRound codes d s).verif = s.verif := rfl
@[simp] theorem publishRound_selftest (codes : List Word16) (d : Word16) : (publishRound codes d s).selftest = s.selftest := rfl
@[simp] theorem publishRound_freeCount (codes : List Word16) (d : Word16) : (publishRound codes d s).freeCount = s.freeCount := rfl
@[simp] theorem publishRound_acq_rounds (codes : List Word16) (d : Word16) : (publishRound codes d s).acq.rounds = s.acq.rounds + 1 := rfl
@[simp] theorem publishRound_acq_rawForce (codes : List Word16) (d : Word16) : (publishRound codes d s).acq.rawForce = rawMean codes := rfl
@[simp] theorem publishRound_acq_rawDepth (codes : List Word16) (d : Word16) : (publishRound codes d s).acq.rawDepth = d.toInt := rfl
@[simp] theorem publishRound_acq_refSwitched (codes : List Word16) (d : Word16) : (publishRound codes d s).acq.refSwitched = s.acq.refSwitched := rfl
@[simp] theorem publishRound_acq_round (codes : List Word16) (d : Word16) : (publishRound codes d s).acq.round = s.acq.round := rfl

end Sys2Proof.Machine
end

