-- ==== Sys2Proof/Laws/Ops.lean ====
section
/-! SUPPORT. For each shared operation, what it can do, said once: byte order, ports, attention terms, answers, the take of a
command, faults, and the decisions of one event. -/

namespace Sys2Proof.Machine

/-! ## Byte order -/

@[simp] theorem bytesLE_length (n v : Nat) : (bytesLE n v).length = n := by
  induction n generalizing v with
  | zero => rfl
  | succ n ih => simp [bytesLE, ih]

@[simp] theorem u8_length (v : Nat) : (u8 v).length = 1 := bytesLE_length 1 v
@[simp] theorem u16_length (v : Nat) : (u16 v).length = 2 := bytesLE_length 2 v
@[simp] theorem u32_length (v : Nat) : (u32 v).length = 4 := bytesLE_length 4 v
@[simp] theorem i16_length (v : Int) : (i16 v).length = 2 := bytesLE_length 2 _
@[simp] theorem i32_length (v : Int) : (i32 v).length = 4 := bytesLE_length 4 _

/-- Bytes laid out least significant first spell the number back, within their width. -/
theorem natLE_bytesLE (n v : Nat) (h : v < 256 ^ n) : natLE (bytesLE n v) = v := by
  induction n generalizing v with
  | zero => simp at h; simp [bytesLE, natLE, h]
  | succ n ih =>
    have hv : v / 256 < 256 ^ n := by
      rw [Nat.div_lt_iff_lt_mul (by norm_num)]; rw [pow_succ] at h; exact h
    simp only [bytesLE, natLE, ih _ hv, BitVec.toNat_ofNat]
    omega

@[simp] theorem fitTo_length (n : Nat) (bs : List Byte) : (fitTo n bs).length = n := by
  simp [fitTo]

@[simp] theorem responseBlock_length (m : Mailbox) (r : Reply) : (responseBlock m r).length = 256 :=
  fitTo_length 256 _

/-! ## Ports -/

@[simp] theorem forPort_withPort {α : Type} (v : PerPort α) (p : Port) (x : α) : forPort (withPort v p x) p = x := by
  cases p <;> rfl

theorem forPort_withPort_ne {α : Type} (v : PerPort α) {p q : Port} (h : q ≠ p) (x : α) :
    forPort (withPort v p x) q = forPort v q := by
  cases p <;> cases q <;> first | rfl | exact absurd rfl h

@[simp] theorem mailbox_setMailbox (s : State) (p : Port) (m : Mailbox) : (s.setMailbox p m).mailbox p = m :=
  forPort_withPort _ _ _

theorem mailbox_setMailbox_ne (s : State) {p q : Port} (h : q ≠ p) (m : Mailbox) :
    (s.setMailbox p m).mailbox q = s.mailbox q :=
  forPort_withPort_ne _ h _

theorem setMailbox_self (s : State) (p : Port) : s.setMailbox p (s.mailbox p) = s := by
  cases p <;> rfl

/-! ## Attention terms (R197) -/

theorem raiseTerm_eq (p : Port) (s : State) : raiseTerm p s = s.setMailbox p (pulsed (s.mailbox p)) := rfl

@[simp] theorem pulsed_state (m : Mailbox) : (pulsed m).state = m.state := by unfold pulsed; split <;> [rfl; (split <;> [rfl; (split <;> rfl)])]
@[simp] theorem pulsed_block (m : Mailbox) : (pulsed m).block = m.block := by unfold pulsed; split <;> [rfl; (split <;> [rfl; (split <;> rfl)])]
@[simp] theorem pulsed_response (m : Mailbox) : (pulsed m).response = m.response := by
  unfold pulsed; split <;> [rfl; (split <;> [rfl; (split <;> rfl)])]
@[simp] theorem pulsed_prev (m : Mailbox) : (pulsed m).prev = m.prev := by unfold pulsed; split <;> [rfl; (split <;> [rfl; (split <;> rfl)])]
@[simp] theorem pulsed_tag (m : Mailbox) : (pulsed m).tag = m.tag := by unfold pulsed; split <;> [rfl; (split <;> [rfl; (split <;> rfl)])]
@[simp] theorem pulsed_code (m : Mailbox) : (pulsed m).code = m.code := by unfold pulsed; split <;> [rfl; (split <;> [rfl; (split <;> rfl)])]
@[simp] theorem pulsed_mode (m : Mailbox) : (pulsed m).mode = m.mode := by unfold pulsed; split <;> [rfl; (split <;> [rfl; (split <;> rfl)])]

@[simp] theorem raiseTerm_mailbox (p : Port) (s : State) : (raiseTerm p s).mailbox p = pulsed (s.mailbox p) := by
  rw [raiseTerm_eq]; simp

theorem raiseTerm_mailbox_ne (s : State) {p q : Port} (h : q ≠ p) : (raiseTerm p s).mailbox q = s.mailbox q := by
  rw [raiseTerm_eq]; exact mailbox_setMailbox_ne s h _

@[simp] theorem raiseTerm_pending (p : Port) (s : State) : (raiseTerm p s).pending = s.pending := by rw [raiseTerm_eq]; rfl
@[simp] theorem raiseTerm_spi (p : Port) (s : State) : (raiseTerm p s).spi = s.spi := by rw [raiseTerm_eq]; rfl
@[simp] theorem raiseTerm_jobs (p : Port) (s : State) : (raiseTerm p s).jobs = s.jobs := by rw [raiseTerm_eq]; rfl
@[simp] theorem raiseTerm_openOrder (p : Port) (s : State) : (raiseTerm p s).openOrder = s.openOrder := by rw [raiseTerm_eq]; rfl
@[simp] theorem raiseTerm_points (p : Port) (s : State) : (raiseTerm p s).points = s.points := by rw [raiseTerm_eq]; rfl
@[simp] theorem raiseTerm_arb (p : Port) (s : State) : (raiseTerm p s).arb = s.arb := by rw [raiseTerm_eq]; rfl
@[simp] theorem raiseTerm_cycle (p : Port) (s : State) : (raiseTerm p s).cycle = s.cycle := by rw [raiseTerm_eq]; rfl
@[simp] theorem raiseTerm_stage (p : Port) (s : State) : (raiseTerm p s).stage = s.stage := by rw [raiseTerm_eq]; rfl
@[simp] theorem raiseTerm_turret (p : Port) (s : State) : (raiseTerm p s).turret = s.turret := by rw [raiseTerm_eq]; rfl
@[simp] theorem raiseTerm_acq (p : Port) (s : State) : (raiseTerm p s).acq = s.acq := by rw [raiseTerm_eq]; rfl
@[simp] theorem raiseTerm_act (p : Port) (s : State) : (raiseTerm p s).act = s.act := by rw [raiseTerm_eq]; rfl
@[simp] theorem raiseTerm_pins (p : Port) (s : State) : (raiseTerm p s).pins = s.pins := by rw [raiseTerm_eq]; rfl
@[simp] theorem raiseTerm_cap (p : Port) (s : State) : (raiseTerm p s).cap = s.cap := by rw [raiseTerm_eq]; rfl
@[simp] theorem raiseTerm_frames (p : Port) (s : State) : (raiseTerm p s).frames = s.frames := by rw [raiseTerm_eq]; rfl
@[simp] theorem raiseTerm_meas (p : Port) (s : State) : (raiseTerm p s).meas = s.meas := by rw [raiseTerm_eq]; rfl
@[simp] theorem raiseTerm_results (p : Port) (s : State) : (raiseTerm p s).results = s.results := by rw [raiseTerm_eq]; rfl
@[simp] theorem raiseTerm_map (p : Port) (s : State) : (raiseTerm p s).map = s.map := by rw [raiseTerm_eq]; rfl
@[simp] theorem raiseTerm_cal (p : Port) (s : State) : (raiseTerm p s).cal = s.cal := by rw [raiseTerm_eq]; rfl
@[simp] theorem raiseTerm_settings (p : Port) (s : State) : (raiseTerm p s).settings = s.settings := by rw [raiseTerm_eq]; rfl
@[simp] theorem raiseTerm_verif (p : Port) (s : State) : (raiseTerm p s).verif = s.verif := by rw [raiseTerm_eq]; rfl
@[simp] theorem raiseTerm_selftest (p : Port) (s : State) : (raiseTerm p s).selftest = s.selftest := by rw [raiseTerm_eq]; rfl
@[simp] theorem raiseTerm_freeCount (p : Port) (s : State) : (raiseTerm p s).freeCount = s.freeCount := by rw [raiseTerm_eq]; rfl

/-! ## Answers (R191) and the take (R190) -/

theorem answer_of_working {p : Port} {s : State} (r : Reply) (h : (s.mailbox p).state = .working) :
    answer p r s = s.setMailbox p (answeredMailbox (s.mailbox p) r) := by
  unfold answer
  rw [if_pos h]

theorem answer_of_not_working {p : Port} {s : State} (r : Reply) (h : (s.mailbox p).state ≠ .working) :
    answer p r s = s := by
  unfold answer; rw [if_neg h]

theorem answer_eq (p : Port) (r : Reply) (s : State) :
    answer p r s = s.setMailbox p
      (if (s.mailbox p).state = .working then answeredMailbox (s.mailbox p) r else s.mailbox p) := by
  by_cases h : (s.mailbox p).state = .working
  · rw [answer_of_working r h, if_pos h]
  · rw [answer_of_not_working r h, if_neg h, setMailbox_self]

@[simp] theorem answer_pending (p : Port) (r : Reply) (s : State) : (answer p r s).pending = s.pending := by rw [answer_eq]; rfl
@[simp] theorem answer_spi (p : Port) (r : Reply) (s : State) : (answer p r s).spi = s.spi := by rw [answer_eq]; rfl
@[simp] theorem answer_jobs (p : Port) (r : Reply) (s : State) : (answer p r s).jobs = s.jobs := by rw [answer_eq]; rfl
@[simp] theorem answer_openOrder (p : Port) (r : Reply) (s : State) : (answer p r s).openOrder = s.openOrder := by rw [answer_eq]; rfl
@[simp] theorem answer_points (p : Port) (r : Reply) (s : State) : (answer p r s).points = s.points := by rw [answer_eq]; rfl
@[simp] theorem answer_arb (p : Port) (r : Reply) (s : State) : (answer p r s).arb = s.arb := by rw [answer_eq]; rfl
@[simp] theorem answer_cycle (p : Port) (r : Reply) (s : State) : (answer p r s).cycle = s.cycle := by rw [answer_eq]; rfl
@[simp] theorem answer_stage (p : Port) (r : Reply) (s : State) : (answer p r s).stage = s.stage := by rw [answer_eq]; rfl
@[simp] theorem answer_turret (p : Port) (r : Reply) (s : State) : (answer p r s).turret = s.turret := by rw [answer_eq]; rfl
@[simp] theorem answer_acq (p : Port) (r : Reply) (s : State) : (answer p r s).acq = s.acq := by rw [answer_eq]; rfl
@[simp] theorem answer_act (p : Port) (r : Reply) (s : State) : (answer p r s).act = s.act := by rw [answer_eq]; rfl
@[simp] theorem answer_pins (p : Port) (r : Reply) (s : State) : (answer p r s).pins = s.pins := by rw [answer_eq]; rfl
@[simp] theorem answer_cap (p : Port) (r : Reply) (s : State) : (answer p r s).cap = s.cap := by rw [answer_eq]; rfl
@[simp] theorem answer_frames (p : Port) (r : Reply) (s : State) : (answer p r s).frames = s.frames := by rw [answer_eq]; rfl
@[simp] theorem answer_meas (p : Port) (r : Reply) (s : State) : (answer p r s).meas = s.meas := by rw [answer_eq]; rfl
@[simp] theorem answer_results (p : Port) (r : Reply) (s : State) : (answer p r s).results = s.results := by rw [answer_eq]; rfl
@[simp] theorem answer_map (p : Port) (r : Reply) (s : State) : (answer p r s).map = s.map := by rw [answer_eq]; rfl
@[simp] theorem answer_cal (p : Port) (r : Reply) (s : State) : (answer p r s).cal = s.cal := by rw [answer_eq]; rfl
@[simp] theorem answer_settings (p : Port) (r : Reply) (s : State) : (answer p r s).settings = s.settings := by rw [answer_eq]; rfl
@[simp] theorem answer_verif (p : Port) (r : Reply) (s : State) : (answer p r s).verif = s.verif := by rw [answer_eq]; rfl
@[simp] theorem answer_selftest (p : Port) (r : Reply) (s : State) : (answer p r s).selftest = s.selftest := by rw [answer_eq]; rfl
@[simp] theorem answer_freeCount (p : Port) (r : Reply) (s : State) : (answer p r s).freeCount = s.freeCount := by rw [answer_eq]; rfl

@[simp] theorem mailbox_takeCommand (p : Port) (s : State) :
    (takeCommand p s).mailbox p = { s.mailbox p with state := .working } := mailbox_setMailbox _ _ _

/-- A command that is POSTED is taken, carried out and answered; one that is not leaves the state. -/
theorem runCommand_of_posted {code : Word16} {p : Port} {s : State} (body : List Byte → State → State × Reply)
    (h : s.posted p code = true) :
    runCommand code p body s =
      answer p (body (s.mailbox p).block (takeCommand p s)).2 (body (s.mailbox p).block (takeCommand p s)).1 := by
  unfold runCommand; rw [if_pos h]

theorem runCommand_of_not_posted {code : Word16} {p : Port} {s : State} (body : List Byte → State → State × Reply)
    (h : s.posted p code = false) : runCommand code p body s = s := by
  unfold runCommand; rw [h]; rfl

/-! ## The queue is left alone by the shared operations -/

@[simp] theorem noteDecision_pending (s : State) : (noteDecision s).pending = s.pending := by
  unfold noteDecision; split <;> rfl

@[simp] theorem haltHead_pending (s : State) : (haltHead s).pending = s.pending := by
  unfold haltHead; split
  · rfl
  · simp

@[simp] theorem recordFault_pending (c : FaultCode) (r : Option SubReason) (s : State) :
    (recordFault c r s).pending = s.pending := by
  unfold recordFault; split
  · rfl
  · split <;> simp

/-! ## A transaction in progress (R188) -/

/-- A byte that arrives changes nothing but its own port's transaction. -/
theorem spiByte_eq (p : Port) (b : Byte) (s : State) : spiByte p b s = { s with spi := (spiByte p b s).spi } := by
  unfold spiByte; split <;> rfl

theorem spiByte_some {p : Port} {x : SpiTransfer} {s : State} (b : Byte) (h : forPort s.spi p = some x) :
    forPort (spiByte p b s).spi p = some (x.push (window s p) b) := by
  unfold spiByte; rw [h]; exact forPort_withPort _ _ _

/-- Another port's transaction is left alone. -/
theorem spiByte_ne (b : Byte) (s : State) {p q : Port} (h : q ≠ p) : forPort (spiByte p b s).spi q = forPort s.spi q := by
  unfold spiByte; split
  · exact forPort_withPort_ne _ h _
  · rfl

/-- The window does not show the transactions. -/
theorem window_spi (s : State) (x : PerPort (Option SpiTransfer)) (p : Port) :
    window { s with spi := x } p = window s p := rfl

/-! ## Decisions (R23) -/

/-- With no decision event standing, the decisions of an event change nothing. -/
theorem settle_of_not_due {s : State} (h : s.arb.due = false) : settle s = s := by
  unfold settle settleFor
  rw [h]
  simp only [Bool.false_and, Bool.false_eq_true, if_false, clearDue]
  rw [← h]

theorem settleFor_due (n : Nat) (s : State) : (settleFor n s).arb.due = false := by
  induction n generalizing s with
  | zero => rfl
  | succ n ih =>
    unfold settleFor
    split
    · exact ih _
    · rfl

/-- A decision event is spent by the decisions of its event. -/
@[simp] theorem settle_due (s : State) : (settle s).arb.due = false := settleFor_due 17 s

/-- A decision event counts with the head IDLE alone (R23). -/
theorem noteDecision_of_not_idle {s : State} (h : s.arb.head ≠ .idle) : noteDecision s = s := by
  unfold noteDecision; rw [if_neg h]

theorem settle_of_not_idle {s : State} (h : s.arb.head ≠ .idle) : settle s = clearDue s := by
  unfold settle settleFor
  simp [h]

/-! ## Readings of an approach -/

/-- A reading in APPROACHING that makes no contact, its force absent or below the threshold, is tested for travel and
saturation alone (R93). -/
theorem readingEvent_no_contact {p : IndentParams} {s : State} (hp : s.act.params = some p)
    (ha : s.act.state = .approaching) (hf : ∀ raw, s.acq.force = some raw → raw - s.act.tare < p.threshold) :
    readingEvent s = judgeTravel p s := by
  unfold readingEvent
  rw [hp]
  cases h : s.acq.force with
  | none => simp [forcelessReading, ha]
  | some raw => simp [taredReading, judgeApproach, ha, not_le.mpr (hf raw h)]

end Sys2Proof.Machine
end

