-- ==== Sys2Proof/WellFormed.lean ====
section
/-! DEFINITION. Which commands are well formed: the operand ranges the spec gives and the types do not.
A transaction needs no check (R188 gives every byte sequence a meaning), nor does a pixel value (R105 judges it). -/

namespace Sys2Proof

/-- A round takes 1 to 16 force samples (R80). -/
def Instr.wellFormed : Instr → Bool
  | .roundEnd codes _ => 1 ≤ codes.length && codes.length ≤ 16
  | .referenceRoundEnd codes _ => 1 ≤ codes.length && codes.length ≤ 16
  | _ => true

/-- The same as a proposition. -/
abbrev Instr.WellFormed (i : Instr) : Prop := i.wellFormed = true

end Sys2Proof
end

