-- ==== Sys2Proof/Tests/Slice0.lean ====
section
/-! SUPPORT. Small tests, their figures taken from the spec's worked examples, and for each statement with hypotheses a
named witness: a concrete state and operands that meet all of them together. -/

namespace Sys2Proof.Tests

open Sys2Proof Sys2Proof.Machine

/-! ## Well-formedness -/

theorem test_round_without_samples_refused : (Instr.roundEnd [] 0).wellFormed = false := by decide
theorem test_round_of_seventeen_refused :
    (Instr.referenceRoundEnd (List.replicate 17 0) 0).wellFormed = false := by decide
theorem test_round_of_sixteen_accepted : (Instr.roundEnd (List.replicate 16 0) 0).wellFormed = true := by decide

/-! ## States -/

/-- The answer's next state; the model stops on nothing. -/
def after (c : Instr) (s : State) : State :=
  match exec c s with
  | .next t => t
  | _ => s

/-- The indenter of the worked example of chapter 5. -/
def tip : Indenter := { profile := .sp, minForce := 50, maxForce := 2000, threshold := 20 }

/-- The objective of the worked example of chapter 7. -/
def lens : Objective :=
  { cx := 640, cy := 512, scale := 26624, corr := 8, dx := 300, dy := -200, exposureUs := 8000, gain := 1
    fallback := some 4 }

/-- The tables of those examples: station 1 the indenter, station 3 the objective. -/
def tables : Calibration :=
  { stations := ((Vector.replicate 6 StationRec.empty).set 1 (.indenter tip)).set 3 (.objective lens)
    curve := [(1200, 0), (21200, 5000)], depthZero := -20000, depthScale := 1280 }

/-- An actuator at rest at the top. -/
def restAct : Actuator := { State.reset.act with state := .retracted, requester := none, stallTimer := false }

/-- The machine calibrated and at rest, the head IDLE. -/
def rest : State :=
  { State.reset with
    arb := { head := .idle, wait := .noWork }, turret := { state := .parked 1 }, act := restAct
    pins := { topLimit := true }, cal := tables, acq := { force := some 0, depth := some 80000 } }

/-- The test parameters of the worked example of chapter 5. -/
def params : JobParams :=
  { kind := .measure, priority := 2, burst := 2, specimen := 7, indenter := 1, objective := 3, force := 490
    loadTime := 20, dwell := 10, approach := 50, travel := 150, roi := 200, illum := .paired, threshold := none
    useFallback := true, convert := false, reference := none, tolerance := none }

/-- JOB_OPEN's block of those parameters. -/
def openBlock : List Byte :=
  u8 0 ++ u8 2 ++ u8 2 ++ u16 7 ++ u8 1 ++ u8 3 ++ u32 490 ++ u8 20 ++ u16 10 ++ u16 50 ++ u16 150 ++ u16 200 ++ u8 1
    ++ u8 0 ++ u8 0 ++ u8 1 ++ u8 0

/-- A command POSTED on a port with tag 7. -/
def posting (p : Port) (code : Word16) (blk : List Byte) (s : State) : State :=
  s.setMailbox p { s.mailbox p with state := .posted, tag := 7, code := code, block := fitTo 252 blk }

/-- A job of PA with those parameters. -/
def job : Job := { params := params, owner := .pa, openSeq := 0, added := 2, nextIndex := 2 }

/-- A point of slot 0. -/
def point (n : Nat) (st : PointState) : Point := { slot := 0, index := n, tag := n, x := 1000, y := -500, state := st }

/-- The job in slot 0 with some points, its reservation made. -/
def withPoints (j : Job) (ps : List Point) (s : State) : State :=
  { (s.setJob 0 j) with points := ps, results := { s.results with reserved := 1 } }

/-- The granted copy of point 0. -/
def granted : Granted := { handle := 0, slot := 0, index := 0, tag := 0, x := 1000, y := -500 }

/-- The machine with point 0 granted and point 1 PENDING, in a cycle state. -/
def busy (c : CycleState) : State :=
  { (withPoints job [point 0 .granted, point 1 .pending] rest) with
    arb := { head := .busy, holder := some 0, burst := 1, rotation := [.pb, .pc, .pa] }
    results := { reserved := 2 }
    cycle := { state := c, granted := some granted, objective := some 3 } }

/-- A record of PA. -/
def record (id : Word16) (p : Port) : Record :=
  { id := id, port := p, handle := 0, kind := .measure, specimen := 7, status := .ok
    body := .jobEnd {
      reason := .finished, openSeq := 0, ok := 0, failed := 0, skipped := 0, voided := 0, mean := none, verdict := none
      correction := none, offVerdict := none } }

/-- The rotation from station 3 to station 1 of the worked example of chapter 4, in a phase. -/
def turning (ph : RotPhase) : Rotation := { src := 3, target := 1, dir := .ccw, phase := ph, pos := 2400, req := .cycle }

/-- The first move order, PENDING. -/
def order : Order := { seq := 1, kind := .indentPos, x := 1000, y := -500, status := .pending }

/-- POSITIONING with the order PENDING and the turret in a phase of its rotation. -/
def positioning (ph : RotPhase) (gated : Nat) : State :=
  { (busy .positioning) with
    stage := { lastSeq := 1, order := some order, settleTimer := true }
    turret := { state := .rotating (turning ph), gated := gated }
    cycle := { (busy .positioning).cycle with pendStage := true, pendTurret := true } }

/-- Start-up or recovery with the turret homing in a phase. -/
def homing (h : HeadState) (ph : HomePhase) (searched gated : Nat) : State :=
  { rest with
    arb := { head := h }, turret := { state := .homing { phase := ph, searched := searched }, gated := gated } }

/-- The indent parameters of the job. -/
def indentParams : IndentParams :=
  { force := 490, loadTime := 20, dwell := 10, approach := 50, travel := 150, threshold := 20, maxForce := 2000 }

/-- INDENTING with the actuator in a state; contact was made at 112 350 nm. -/
def indenting (a : ActState) : State :=
  { (busy .indenting) with
    cycle := { (busy .indenting).cycle with pendActuator := true, contactMade := true }
    acq := { force := some 487, depth := some 114100 }
    act := { restAct with
      state := a, requester := some (.cycle, .indent), params := some indentParams, refDepth := some 80000
      contactMade := true, contactForce := some 21, contactDepth := some 112350, target := some 490
      dwellSum := 891528, dwellCount := 1819, loadTimer := a = .loading, dwellTimer := a = .dwelling } }

/-- The capture request of the job through station 3. -/
def capRequest : CapRequest :=
  { objective := 3, h := 200, illum := .paired, exposureUs := 8000, cx := 640, cy := 512, gain := 1, camera := .bits8 }

/-- CAPTURING with the engine in a state and a line count. -/
def capturing (c : CapState) (e : Exposure) (lines : Nat) (line : List Nat) : State :=
  { (busy .capturing) with
    cap := {
      state := c, request := some capRequest, roi := some (roiFor 200 640 512), exposure := some e, exposureCount := 1
      lineCount := lines, line := line, frameTimer := true, imageCounter := 516 } }

/-- A self-test at its last item, asked for by PB. -/
def testing (i : TestItem) : State :=
  let s := { rest with
    arb := { head := .selftest }, acq := { refSwitched := true }
    selftest := { run := some { port := .pb, item := i, todo := [], done := 1, visits := 6 } } }
  s.setMailbox .pb { s.mailbox .pb with state := .working, code := 0x0504 }

/-! ## Worked examples -/

theorem test_mean_of_eight_codes : roundHalfUp 25290 8 = 3161 := by decide
theorem test_force_curve :
    forceReading tables.curve 1284 = some 21 ∧ forceReading tables.curve 3148 = some 487 ∧
    forceReading tables.curve 1176 = some (-6) := by decide
theorem test_depth : depthReading (-20000) 1280 (-4000) = some 80000 := by decide
theorem test_ramp : rampTarget 21 490 500 2000 = 138 ∧ rampTarget 21 490 1000 2000 = 256 := by decide
theorem test_band_and_limits :
    isOverload indentParams 540 = true ∧ isOverload indentParams 539 = false ∧ inBand 490 486 = true ∧
    inBand 490 485 = false ∧ isUnstable 490 500 = true ∧ isUnstable 490 499 = false := by decide
theorem test_dwell_done :
    (after .dwellDone (indenting .dwelling)).act.dwellMean = some 490 ∧
    (after .dwellDone (indenting .dwelling)).act.penetration = some 1750 := by decide
theorem test_rotation_three_to_one : rotationDir 3 1 = .ccw ∧ travelSteps 3 1 = 4960 := by decide
theorem test_stroke_confirmed :
    (after .strokeEnd (positioning (.stroke 160 true) 36)).turret.state = .parked 1 := by decide
theorem test_stroke_over_the_wrong_mark :
    (after .strokeEnd (positioning (.stroke 160 true) 52)).turret.lastSub = some .markMismatch := by decide
theorem test_homing_mark_of_station_four :
    (after (.stepReported { sensor := false }) (homing .recovering .mark 2429 84)).turret.state =
      .homing { phase := .place 4 0 9580, searched := 2430 } := by decide
theorem test_homing_mark_unknown :
    (after (.stepReported { sensor := false }) (homing .recovering .mark 2429 44)).arb.last.map FaultRecord.sub =
      some (some .markUnknown) := by decide
/-- A late step, and one beyond the stroke's last, move the pin's level and are no reading of the stroke's end (R67). -/
theorem test_uncounted_steps_are_not_read :
    (after .strokeEnd (after (.stepReported { sensor := true, late := true }) (positioning (.stroke 160 true) 36))).turret.state
      = .parked 1 ∧
    (after .strokeEnd (after (.stepReported { sensor := true }) (positioning (.stroke 160 true) 36))).turret.state =
      .parked 1 ∧
    (after .strokeEnd (after (.stepReported { sensor := true }) (positioning (.stroke 159 true) 36))).turret.state =
      .fault := by decide
/-- A rotation is under way when RESET, with the top limit active, starts a homing; the step it asked for is reported then and
is not counted (R66), and the next step is. -/
theorem test_step_before_reset_is_not_counted :
    let s := after .reset (positioning (.travel 100) 0)
    (after (.stepReported { sensor := false, late := true }) s).turret.state = .homing { phase := .search true, searched := 0 } ∧
    (after (.stepReported { sensor := false }) s).turret.state = .homing { phase := .search true, searched := 1 } := by decide
theorem test_edges :
    leadingEdge 3 (List.replicate 141 0 ++ [1, 4]) 142 = 2266 ∧
    trailingEdge 3 (List.replicate 258 0 ++ [5, 2]) 258 = 4139 := by decide
theorem test_longer_run_wins : chooseRun 400 [(60, 64), (142, 258)] = some (142, 258) := by decide
theorem test_scale : diagonalNm 1881 26624 = 12227 ∧ offset32 2266 4139 200 = 21 ∧ offsetNm 21 26624 = 68 := by decide
theorem test_hardness : diagonalUsed .sp 12227 12298 = 12263 ∧ hardnessValue .sp 490 12263 = some 61613 := by decide
theorem test_hardness_under : hardnessValue .sp 98 200000 = some 46 ∧ isUnder .sp 98 200000 = true := by decide
theorem test_falling_segment_rounds_up : onTable 10050 [(10000, 200), (10100, 199)] = 200 := by decide
theorem test_map_diagonal : mapDiagonal 12263 = 123 := by decide

/-- Transaction 1 of chapter 11's worked sequence, here with no points. -/
theorem test_post_transaction :
    ((after (.windowWrite .pb [0x10, 0, 0, 1, 0x2A, 2, 1, 0x11, 0, 1]) rest).mailbox .pb).code = 0x0102 := by decide

/-- A withdraw after the take meets the answer and leaves it to be acknowledged (R192). -/
theorem test_withdraw_after_take :
    ((after (.withdraw .pa) (after (.resultTake .pa) (posting .pa 0x0201 [] rest))).mailbox .pa).state = .answered := by
  decide

/-- A rotation that has been accepted shows a gated count of 0 (worked example of chapter 4, first row). -/
theorem test_gated_count_at_the_request :
    (rotationRequest .cycle 1 { rest with turret := { state := .parked 3, gated := 52 } }).turret.gated = 0 := by decide

/-- A measurement asked of another image than LAST's is reported with its detail (R120). -/
theorem test_no_image_is_reported :
    (requestMeasure { imageId := 9, hEff := 4, threshold := none, objective := 3, corr := 0, scale := 1 } rest).2 =
      some (.failed .noEdge .noImage none) := by decide

/-- The answer of that sequence: job 0x11 with next index 40, two points added. -/
theorem test_points_add_answer :
    let s := { (posting .pb 0x0102 (u8 0x11 ++ u8 2 ++ u8 1) rest) with
      arb := { head := .busy }
      jobs := rest.jobs.set 1 { gen := 1, job := some { job with owner := .pb, nextIndex := 40 }, acc := {} } }
    (((after (.pointsAdd .pb) s).mailbox .pb).response.drop 8).take 6 = [40, 0, 2, 254, 0, 0] := by decide

/-! ## Witnesses: the step and the job commands -/

theorem witness_StepRunsFrontCommand : ({ rest with pending := [.reset] } : State).pending = [.reset] := by decide

theorem witness_IdleStepIsOneMillisecond :
    (indenting .dwelling).pending = [] ∧ (indenting .dwelling).act.state = .dwelling ∧
    (indenting .loading).pending = [] ∧ (indenting .loading).act.state = .loading ∧
    (indenting .loading).act.params = some indentParams ∧ (indenting .loading).act.contactForce = some 21 ∧
    rest.pending = [] ∧ rest.act.state ≠ .loading ∧ rest.act.state ≠ .dwelling := by decide

theorem witness_CommandsLeaveTheQueue : ∃ t, exec .stopLineRelease rest = .next t := ⟨_, rfl⟩

def opening : State := posting .pa 0x0101 openBlock rest

theorem witness_JobOpenOpens :
    opening.posted .pa 0x0101 = true ∧ jobOpenParams (opening.blockOf .pa) = some params ∧
    opening.uncalibrated = false ∧ stationCheck params (opening.station params.indenter) (opening.station params.objective) = true ∧
    opening.freeSlot = some 0 ∧ opening.results.free ≠ 0 := by decide

/-- Each refusal of JOB_OPEN is reached: a kind of 3, no curve, no indenter, a full table, a full store. -/
theorem witness_JobOpenRefusalOrder :
    (posting .pa 0x0101 [3] rest).posted .pa 0x0101 = true ∧
    jobOpenParams ((posting .pa 0x0101 [3] rest).blockOf .pa) = none ∧
    jobOpenParams (opening.blockOf .pa) = some params ∧
    ({ opening with cal := {} } : State).uncalibrated = true ∧ opening.uncalibrated = false ∧
    stationCheck params (opening.station 2) (opening.station 3) = false ∧
    stationCheck params (opening.station 1) (opening.station 3) = true ∧
    ({ opening with jobs := Vector.replicate 16 { job := some job } } : State).freeSlot = none ∧
    opening.freeSlot ≠ none ∧ ({ opening with results := { reserved := 96 } } : State).results.free = 0 := by decide

/-- Each refusal is reached, POINTS_ADD's at their bounds: one point above 65 535 and one above the free slots. -/
theorem witness_RefusalsChangeNothing :
    (((posting .pa 0x0000 [] rest).mailbox .pa).state = .posted ∧
      ((posting .pa 0x0000 [] rest).mailbox .pa).code ∉ commandCodes) ∧
    ((posting .pa 0x0102 [0, 0, 2] rest).posted .pa 0x0102 = true ∧
      (pointsAddParams ((posting .pa 0x0102 [0, 0, 2] rest).blockOf .pa)).isSome = false) ∧
    ((posting .pa 0x0106 [0, 8] rest).posted .pa 0x0106 = true ∧
      ¬ readU ((posting .pa 0x0106 [0, 8] rest).blockOf .pa) 1 1 ≤ 7) ∧
    ((posting .pa 0x0107 [5] rest).posted .pa 0x0107 = true ∧
      (posting .pa 0x0107 [5] rest).findJob (handleAt ((posting .pa 0x0107 [5] rest).blockOf .pa)) = none) := by decide

theorem witness_RefusalsChangeNothing_owner :
    let s := posting .pb 0x0106 [0, 7] (withPoints job [] rest)
    s.posted .pb 0x0106 = true ∧ readU (s.blockOf .pb) 1 1 ≤ 7 ∧ s.findJob (handleAt (s.blockOf .pb)) = some (0, job) ∧
      job.owner ≠ .pb := by decide

/-- A job that is being cancelled, one whose list is closed, one with no point left to number and one with one left. -/
def ending : Job := { job with cancelling := true }
def closed : Job := { job with list := .closed }
def full : Job := { job with added := 65535 }
def nearlyFull : Job := { job with added := 65534 }

/-- A block of one point sent to job `j` with the points `ps`. -/
def addingTo (j : Job) (ps : List Point) : State :=
  posting .pa 0x0102 ([0, 1, 1] ++ List.replicate 10 0) (withPoints j ps rest)

theorem witness_RefusalsChangeNothing_states :
    (let s := posting .pa 0x0103 [0] (withPoints ending [] rest)
     s.posted .pa 0x0103 = true ∧ s.findJob (handleAt (s.blockOf .pa)) = some (0, ending) ∧ ending.owner = .pa ∧
        ending.cancelling = true) ∧
    (let s := posting .pa 0x0102 [0, 0, 1] (withPoints closed [] rest)
     s.posted .pa 0x0102 = true ∧ pointsAddParams (s.blockOf .pa) = some (true, []) ∧
        s.findJob (handleAt (s.blockOf .pa)) = some (0, closed) ∧ closed.owner = .pa ∧ closed.cancelling = false) := by
  decide

set_option maxRecDepth 4000 in
theorem witness_RefusalsChangeNothing_pointsAdd :
    (let s := addingTo full []
     s.posted .pa 0x0102 = true ∧ pointsAddParams (s.blockOf .pa) = some (true, [(0, 0, 0)]) ∧
        s.findJob (handleAt (s.blockOf .pa)) = some (0, full) ∧ full.list = .opened ∧ 65535 < full.added + 1) ∧
    (let s := addingTo nearlyFull (List.replicate 256 (point 0 .pending))
     s.posted .pa 0x0102 = true ∧ s.findJob (handleAt (s.blockOf .pa)) = some (0, nearlyFull) ∧
        nearlyFull.added + 1 ≤ 65535 ∧ s.freePoints < 1) := by decide

theorem witness_RefusalsChangeNothing_stage :
    ((posting .pa 0x0301 [1] rest).posted .pa 0x0301 = true ∧ (posting .pa 0x0301 [1] rest).settings.stagePort ≠ .pa) ∧
    (let s := posting .pc 0x0302 [2] (positioning (.travel 1) 0)
     s.posted .pc 0x0302 = true ∧ s.settings.stagePort = .pc ∧ s.pendingOrder = some order ∧
        order.seq ≠ seqParam (s.blockOf .pc)) := by decide

def adding : State :=
  posting .pa 0x0102 (u8 0 ++ u8 1 ++ u8 1 ++ i32 2000000 ++ i32 (-2000000) ++ u16 9) (busy .positioning)

/-- A block of one point at the range's corners. -/
theorem witness_PointsAddAppends :
    adding.posted .pa 0x0102 = true ∧
    pointsAddParams (adding.blockOf .pa) = some (true, [(2000000, -2000000, 9)]) ∧
    adding.findJob (handleAt (adding.blockOf .pa)) = some (0, job) ∧ job.owner = .pa ∧ job.cancelling = false ∧
    job.list = .opened ∧ job.added + 1 ≤ 65535 ∧ 1 ≤ adding.freePoints ∧ adding.arb.head ≠ .idle ∧
    adding.arb.due = false := by decide

/-- A job of a kind with the reference and tolerance of chapter 10's worked example. -/
def jobOf (k : JobKind) : Job :=
  { job with params := { params with kind := k, reference := some 61500, tolerance := some 10 } }

/-- Its list about to close, with an accumulation in its slot and a verification table of `n` entries of the forces `f`
and below. -/
def closing (k : JobKind) (acc : Accum) (f n : Nat) : State :=
  let s := withPoints (jobOf k) [] rest
  let entry (i : Nat) : VerifEntry :=
    { station := 1, force := f - i, verified := false, mean := none, since := 0, seq := BitVec.ofNat 32 i }
  posting .pa 0x0102 [0, 0, 0]
    { s.setSlot 0 { s.slot 0 with acc := acc } with verif := { counter := 40, entries := (List.range n).map entry } }

/-- A MEASURE job, and an OFFSET_CAL job with its correction: 500 is the last that fits. -/
theorem witness_ClosingAnEmptyJobFinishesIt :
    (let s := closing .measure {} 489 0
     s.posted .pa 0x0102 = true ∧ pointsAddParams (s.blockOf .pa) = some (false, []) ∧
        s.findJob (handleAt (s.blockOf .pa)) = some (0, jobOf .measure) ∧ (jobOf .measure).owner = .pa ∧
        (jobOf .measure).cancelling = false ∧ (jobOf .measure).list = .opened ∧ s.pointsOf 0 = [] ∧
        (jobOf .measure).added ≤ 65535 ∧ s.arb.due = false) ∧
    (let s := closing .offsetCal { x := 50049, y := -50050, count := 1 } 489 0
     s.findJob (handleAt (s.blockOf .pa)) = some (0, jobOf .offsetCal) ∧ s.station 3 = .objective lens ∧
        (s.slot 0).acc.count ≠ 0 ∧ correctionFits lens (500, -500) = true ∧ correctionFits lens (501, -500) = false) ∧
    offsetMean { x := 50049, y := -50050, count := 1 } = some (500, -500) ∧
    offsetMean { x := 50050, y := -50050, count := 1 } = some (501, -500) := by decide

/-- VERIFY jobs over a table that is full without their key, that has one place left, and that holds their key. -/
theorem witness_ClosingAnEmptyJobFinishesIt_verify :
    (let s := closing .verify { hardness := 184735, count := 3 } 489 12
     s.findJob (handleAt (s.blockOf .pa)) = some (0, jobOf .verify) ∧ (s.slot 0).acc.count ≠ 0 ∧
        s.verif.entries.length = 12 ∧ ∀ e ∈ s.verif.entries, e.force ≠ (jobOf .verify).params.force) ∧
    (closing .verify {} 489 11).verif.entries.length < 12 ∧ ((closing .verify {} 489 11).slot 0).acc.count = 0 ∧
    (∃ e ∈ (closing .verify {} 490 1).verif.entries, e.station = 1 ∧ e.force = 490) := by decide

theorem witness_HoldUnholdPriority :
    (let s := posting .pa 0x0103 [0] (busy .positioning)
     s.findJob (handleAt (s.blockOf .pa)) = some (0, job) ∧ s.arb.due = false ∧ s.posted .pa 0x0103 = true) ∧
    (let s := posting .pa 0x0104 [0] (busy .positioning)
     s.findJob (handleAt (s.blockOf .pa)) = some (0, job) ∧ s.posted .pa 0x0104 = true ∧ s.arb.head ≠ .idle) ∧
    (let s := posting .pa 0x0106 [0, 7] (busy .positioning)
     s.findJob (handleAt (s.blockOf .pa)) = some (0, job) ∧ s.posted .pa 0x0106 = true ∧
        priorityParam (s.blockOf .pa) = some 7) ∧
    job.owner = .pa ∧ job.cancelling = false := by decide

theorem witness_CancelEndsAnIdleJob :
    (let s := posting .pa 0x0105 [0] (withPoints job [point 0 .pending, point 1 .pending] rest)
     s.posted .pa 0x0105 = true ∧ s.findJob (handleAt (s.blockOf .pa)) = some (0, job) ∧ s.grantedOf 0 = none ∧
        s.arb.due = false) ∧ job.owner = .pa ∧ job.cancelling = false := by decide

theorem witness_CancelVoidsOrDrains :
    (let s := posting .pa 0x0105 [0] (positioning (.travel 1) 0)
     s.posted .pa 0x0105 = true ∧ s.findJob (handleAt (s.blockOf .pa)) = some (0, job) ∧
        s.grantedOf 0 = some (point 0 .granted) ∧ s.arb.head = .busy ∧ s.arb.due = false ∧
        s.cycle.state = .positioning ∧ s.cycle.pendTurret = true ∧ s.turret.rotating = true ∧
        s.pendingOrder = some order) ∧
    (let s := posting .pa 0x0105 [0] (busy .viewing)
     s.posted .pa 0x0105 = true ∧ s.findJob (handleAt (s.blockOf .pa)) = some (0, job) ∧
        s.grantedOf 0 = some (point 0 .granted) ∧ s.arb.head = .busy ∧ s.cycle.state ≠ .positioning) := by decide

theorem witness_JobQueryAnswers :
    (let s := posting .pb 0x0107 [0] (busy .viewing)
     s.posted .pb 0x0107 = true ∧ s.findJob (handleAt (s.blockOf .pb)) = some (0, job)) := by decide

/-! ## Witnesses: results, images, the map -/

def kept : State := { (busy .viewing) with
  results := { reserved := 2, untaken := ⟨[record 5 .pa], [], []⟩, taken := ⟨[record 3 .pa, record 4 .pa], [record 6 .pb], []⟩ } }

theorem witness_ResultTakeHandsOver :
    (posting .pa 0x0201 [] kept).posted .pa 0x0201 = true ∧
    forPort (posting .pa 0x0201 [] kept).results.untaken .pa = [record 5 .pa] ∧
    (posting .pb 0x0201 [] kept).posted .pb 0x0201 = true ∧
    forPort (posting .pb 0x0201 [] kept).results.untaken .pb = [] := by decide

theorem witness_ResultFreeFrees :
    (kept.arb.head ≠ .idle ∧ kept.arb.due = false) ∧
    (let s := posting .pa 0x0202 [9, 0] kept
     s.posted .pa 0x0202 = true ∧ s.results.takenWith (recordIdParam (s.blockOf .pa)) = none ∧
        s.results.untakenWith (recordIdParam (s.blockOf .pa)) = none) ∧
    (let s := posting .pa 0x0202 [6, 0] kept
     s.posted .pa 0x0202 = true ∧ s.results.takenWith (recordIdParam (s.blockOf .pa)) = some (record 6 .pb)) ∧
    (let s := posting .pa 0x0202 [5, 0] kept
     s.posted .pa 0x0202 = true ∧ s.results.takenWith (recordIdParam (s.blockOf .pa)) = none ∧
        s.results.untakenWith (recordIdParam (s.blockOf .pa)) = some (record 5 .pa)) ∧
    (let s := posting .pa 0x0202 [3, 0] kept
     s.posted .pa 0x0202 = true ∧ s.results.takenWith (recordIdParam (s.blockOf .pa)) = some (record 3 .pa)) ∧
    (record 3 .pa).port = .pa ∧ (record 6 .pb).port ≠ .pa ∧
    (let s := posting .pa 0x0203 [] kept
     s.posted .pa 0x0203 = true ∧ forPort s.results.taken .pa = [record 3 .pa, record 4 .pa]) ∧
    (let s := posting .pc 0x0203 [] kept
     s.posted .pc 0x0203 = true ∧ forPort s.results.taken .pc = []) := by decide

theorem witness_ResultReadAnswers :
    (let s := posting .pb 0x0204 [5, 0] kept
     s.posted .pb 0x0204 = true ∧ s.results.untakenWith (recordIdParam (s.blockOf .pb)) = some (record 5 .pa)) ∧
    (let s := posting .pb 0x0204 [3, 0] kept
     s.results.untakenWith (recordIdParam (s.blockOf .pb)) = none ∧
        s.results.takenWith (recordIdParam (s.blockOf .pb)) = some (record 3 .pa)) ∧
    (let s := posting .pb 0x0204 [9, 0] kept
     s.results.untakenWith (recordIdParam (s.blockOf .pb)) = none ∧
        s.results.takenWith (recordIdParam (s.blockOf .pb)) = none) := by decide

/-- LAST is image 517 with h_eff 200; the last byte of a row, one byte too far, and another id. -/
theorem witness_ImageReadAnswers :
    (let s := posting .pa 0x0205 (u16 517 ++ u16 399 ++ u16 399 ++ u8 1) { rest with frames := { lastId := some 517, lastHEff := some 200 } }
     s.posted .pa 0x0205 = true ∧ imageReadParams (s.blockOf .pa) = some (517, 399, 399, 1) ∧
        s.frames.lastId = some 517 ∧ s.frames.lastHEff = some 200 ∧ 399 < 2 * 200 ∧ 399 + 1 ≤ 2 * 200) ∧
    (let s := posting .pa 0x0205 (u16 517 ++ u16 400 ++ u16 0 ++ u8 240) { rest with frames := { lastId := some 517, lastHEff := some 200 } }
     imageReadParams (s.blockOf .pa) = some (517, 400, 0, 240) ∧ 2 * 200 ≤ 400) ∧
    (let s := posting .pa 0x0205 (u16 516 ++ u16 0 ++ u16 0 ++ u8 1) { rest with frames := { lastId := some 517, lastHEff := some 200 } }
     imageReadParams (s.blockOf .pa) = some (516, 0, 0, 1) ∧ s.frames.lastId ≠ some 516) := by decide

theorem witness_MapClearRemoves :
    (posting .pa 0x0206 [0, 7, 0] rest).posted .pa 0x0206 = true ∧
    mapClearParams ((posting .pa 0x0206 [0, 7, 0] rest).blockOf .pa) = some (some 7) ∧
    mapClearParams ((posting .pa 0x0206 [1] rest).blockOf .pa) = some none ∧
    1 < readU ((posting .pa 0x0206 [2] rest).blockOf .pa) 0 1 := by decide

/-! ## Witnesses: the stage and the tables -/

theorem witness_OrdersEnd :
    (let s := positioning (.travel 1) 0
     s.pendingOrder = some order ∧ s.cycle.state = .positioning ∧ s.cycle.pendTurret = true ∧ s.arb.due = false ∧
        s.turret.rotating = true ∧ s.cap.state = .idle ∧ s.meas.run = none ∧ s.stage.settleTimer = true) ∧
    (let s := posting .pc 0x0301 [1] (positioning (.travel 1) 0)
     s.posted .pc 0x0301 = true ∧ s.settings.stagePort = .pc ∧ order.seq = seqParam (s.blockOf .pc)) ∧
    (let s := posting .pc 0x0302 [1] (positioning (.travel 1) 0)
     s.posted .pc 0x0302 = true ∧ s.settings.stagePort = .pc ∧ order.seq = seqParam (s.blockOf .pc)) := by decide

def settledLast : State :=
  posting .pc 0x0301 [1] { (busy .positioning) with
    stage := { lastSeq := 1, order := some order, settleTimer := true }
    cycle := { (busy .positioning).cycle with pendStage := true } }

theorem witness_LastCompletionStartsTheIndent :
    settledLast.posted .pc 0x0301 = true ∧ settledLast.settings.stagePort = .pc ∧ settledLast.pendingOrder = some order ∧
    order.seq = seqParam (settledLast.blockOf .pc) ∧ settledLast.cycle.state = .positioning ∧
    settledLast.cycle.pendTurret = false ∧ settledLast.cycleJob = some (granted, job) ∧
    settledLast.act.state = .retracted ∧ settledLast.turret.moving = false ∧ settledLast.acq.force = some 0 ∧
    settledLast.acq.depth = some 80000 ∧ settledLast.arb.due = false := by decide

theorem witness_StationWriteLapses :
    (let s := posting .pa 0x0401 [1, 0] rest
     s.posted .pa 0x0401 = true ∧ stationWriteParams (s.blockOf .pa) = some (1, .empty) ∧ s.writesBusy = false) := by
  decide

theorem witness_TheOtherWritesReplace :
    rest.writesBusy = false ∧
    (let s := posting .pa 0x0403 [0] rest
     s.posted .pa 0x0403 = true ∧ forceCurveParams (s.blockOf .pa) = some ([], 0, 0)) ∧
    (let s := posting .pa 0x0405 [1, 0] rest
     s.posted .pa 0x0405 = true ∧ conversionParams (s.blockOf .pa) = some (.rb, [])) ∧
    (let s := posting .pa 0x0408 (settingsPayload { rest.settings with edgeLevel := 16 }) rest
     s.posted .pa 0x0408 = true ∧ settingsParams (s.blockOf .pa) = some { rest.settings with edgeLevel := 16 } ∧
        (16 : Nat) ≠ s.settings.edgeLevel) ∧
    settingsParams ((posting .pa 0x0408 (settingsPayload rest.settings) rest).blockOf .pa) = some rest.settings := by
  decide

theorem witness_WritesAreRefusedWhileTheHeadWorks :
    ((posting .pa 0x0401 [6] rest).posted .pa 0x0401 = true ∧
      (stationWriteParams ((posting .pa 0x0401 [6] rest).blockOf .pa)).isSome = false) ∧
    ((posting .pa 0x0401 [5] (busy .viewing)).posted .pa 0x0401 = true ∧
      (stationWriteParams ((posting .pa 0x0401 [5] (busy .viewing)).blockOf .pa)).isSome = true ∧
      (posting .pa 0x0401 [5] (busy .viewing)).arb.head = .busy) := by decide

theorem witness_ReadsAnswerTheTables :
    ((posting .pa 0x0402 [5] rest).posted .pa 0x0402 = true ∧
      stationAt ((posting .pa 0x0402 [5] rest).blockOf .pa) 0 = some 5) ∧
    ((posting .pa 0x0402 [6] rest).posted .pa 0x0402 = true ∧ 5 < readU ((posting .pa 0x0402 [6] rest).blockOf .pa) 0 1) ∧
    (posting .pa 0x0404 [] rest).posted .pa 0x0404 = true ∧ (posting .pa 0x0406 [] rest).posted .pa 0x0406 = true ∧
    (posting .pa 0x0407 [] rest).posted .pa 0x0407 = true ∧ (posting .pa 0x0409 [] rest).posted .pa 0x0409 = true := by
  decide

theorem witness_SettingsPayloadReadsBack :
    (let v : Settings := { settleTimeout := 60, round := { prescale := 16, period := 256, n := 16 }, edgeLevel := 16, minContrast := 255, interval := 65535 }
     1 ≤ v.settleTimeout ∧ v.settleTimeout ≤ 60 ∧
        (v.round.prescale = 1 ∨ v.round.prescale = 4 ∨ v.round.prescale = 16) ∧ 1 ≤ v.round.period ∧
        v.round.period ≤ 256 ∧ 1 ≤ v.round.n ∧ v.round.n ≤ 16 ∧ 1 ≤ v.edgeLevel ∧ v.edgeLevel ≤ 16 ∧
        1 ≤ v.minContrast ∧ v.minContrast ≤ 255 ∧ v.interval ≤ 65535) := by decide

/-! ## Witnesses: the head and the ports -/

/-- A STOP in RECOVERING while the turret homes, with the actuator still RETRACTING without its limit, with the actuator
RETRACTED without its limit, in IDLE, and in SELFTEST. -/
theorem witness_StopHaltsTheHead :
    TakesStop (.headStop .pa) (posting .pa 0x0501 [] (homing .recovering .mark 10 3)) ∧
    TakesStop .stopLineAssert rest ∧
    (let s := homing .recovering .mark 10 3
     s.arb.head ≠ .busy ∧ s.arb.head ≠ .selftest ∧ s.arb.due = false ∧ s.act.held = none ∧ s.turret.moving = true ∧
        ({ s with pins := {} } : State).pins.topLimit = false ∧ s.act.state = .retracted) ∧
    (State.reset.arb.head = .unready ∧ State.reset.act.state = .retracting ∧ State.reset.pins.topLimit = false ∧
      State.reset.act.held = none ∧ State.reset.pins.stopLine = false) ∧
    (rest.arb.head = .idle ∧ rest.act.held = none) ∧
    (let s := testing .turret
     s.arb.head = .selftest ∧ s.selftest.run = some { port := .pb, item := .turret, todo := [], done := 1, visits := 6 } ∧
        (s.mailbox .pb).state = .working ∧ s.pins.stopLine = false) :=
  ⟨.inl ⟨_, rfl, by decide⟩, .inr ⟨rfl, by decide⟩, by decide, by decide, by decide, by decide⟩

/-- A STOP with a rotation in flight, in INDENTING with the actuator LOADING and APPROACHING, in CAPTURING with nothing to
wait for, and in CLEARING with the actuator UNLOADING. -/
theorem witness_StopAbortsTheRunningPoint :
    TakesStop .stopLineAssert (positioning (.travel 1) 0) ∧
    TakesStop (.headStop .pb) (posting .pb 0x0501 [] (positioning (.travel 1) 0)) ∧
    (let s := positioning (.travel 1) 0
     s.arb.head = .busy ∧ s.arb.due = false ∧ s.cycle.state = .positioning ∧ s.act.atRest = true ∧
        (s.cycle.pendTurret && s.turret.rotating) = true ∧ s.pendingOrder = some order) ∧
    (let s := indenting .loading
     s.cycle.state = .indenting ∧ s.act.atRest = false ∧ s.act.state = .loading ∧ s.act.contactMade = true ∧
        s.act.contactDepth = some 112350 ∧ s.acq.depth = some 114100 ∧ s.arb.head = .busy) ∧
    (let s : State := { indenting .approaching with pins := {} }
     s.act.state = .approaching ∧ s.pins.topLimit = false ∧ (indenting .approaching).pins.topLimit = true) ∧
    (let s := capturing .receiving .a 3 []
     s.cycle.state = .capturing ∧ s.act.atRest = true ∧ (s.cycle.pendTurret && s.turret.rotating) = false ∧
        s.cycleJob = some (granted, job) ∧ s.pendingOf granted.slot ≠ []) ∧
    (let s : State := { indenting .unloading with cycle := { (indenting .unloading).cycle with state := .clearing } }
     s.cycle.state = .clearing ∧ s.act.state = .unloading ∧ s.act.atRest = false ∧ s.cycle.granted.isSome = true ∧
        s.act.requester ≠ some (.cycle, .retract)) :=
  ⟨.inr ⟨rfl, by decide⟩, .inl ⟨_, rfl, by decide⟩, by decide, by decide, by decide, by decide, by decide⟩

def halted (a : ActState) (line top : Bool) : State :=
  posting .pa 0x0502 [] { rest with
    arb := { head := .halted }, act := { restAct with state := a }, pins := { stopLine := line, topLimit := top } }

theorem witness_HeadResumeRecovers :
    ((posting .pa 0x0502 [] rest).posted .pa 0x0502 = true ∧ rest.arb.due = false ∧ rest.arb.head ≠ .halted) ∧
    ((halted .retracted true true).arb.head = .halted ∧ (halted .retracted true true).pins.stopLine = true) ∧
    ((halted .retracted false true).posted .pa 0x0502 = true ∧ (halted .retracted false true).arb.head = .halted ∧
      (halted .retracted false true).pins.stopLine = false ∧ (halted .retracted false true).act.state = .retracted ∧
      (halted .retracted false true).turret.moving = false) ∧
    ((halted .stalled false false).posted .pa 0x0502 = true ∧ (halted .stalled false false).act.state = .stalled ∧
      (halted .stalled false false).pins.topLimit = false) := by decide

theorem witness_ArbSetLastMovesThePort :
    (posting .pb 0x0503 [3] rest).posted .pb 0x0503 = true ∧ 2 < readU ((posting .pb 0x0503 [3] rest).blockOf .pb) 0 1 ∧
    readU ((posting .pb 0x0503 [2] rest).blockOf .pb) 0 1 = portNum .pc ∧ rest.rotationWf = true ∧
    rest.arb.rotation.getLast? = some .pc ∧ readU ((posting .pb 0x0503 [0] rest).blockOf .pb) 0 1 = portNum .pa := by
  decide

theorem witness_SelftestBegins :
    ((posting .pb 0x0504 [0, 0] rest).posted .pb 0x0504 = true ∧
      selftestParams ((posting .pb 0x0504 [0, 0] rest).blockOf .pb) = some [.pattern, .address, .force, .depth, .turret] ∧
      rest.arb.due = false ∧ rest.arb.head = .idle) ∧
    selftestParams ((posting .pb 0x0504 [2, 0] rest).blockOf .pb) = some [.force, .depth] ∧
    selftestParams ((posting .pb 0x0504 [3, 0] rest).blockOf .pb) = some [.turret] ∧
    (rest.turret.state = .parked 1 ∧ rest.act.state = .retracted) ∧ (busy .viewing).arb.head ≠ .idle := by decide

theorem witness_PortConfigSetsTheMode :
    (posting .pb 0x0505 [2] rest).posted .pb 0x0505 = true ∧ 1 < readU ((posting .pb 0x0505 [2] rest).blockOf .pb) 0 1 ∧
    attnModeParam ((posting .pb 0x0505 [1] rest).blockOf .pb) = some .pulse ∧ (rest.mailbox .pb).mode ≠ .pulse ∧
    attnModeParam ((posting .pb 0x0505 [0] rest).blockOf .pb) = some .level := by decide

theorem witness_ControlWordWrites :
    (rest.mailbox .pa).state = .empty ∧ (rest.mailbox .pa).state ≠ .posted ∧
    ((posting .pa 0x0101 [] rest).mailbox .pa).state = .posted ∧
    ((after (.resultTake .pa) (posting .pa 0x0201 [] rest)).mailbox .pa).state = .answered ∧
    ¬ ((2 : Byte) = 1 ∧ (rest.mailbox .pa).state = .empty) := by decide

set_option maxRecDepth 20000 in
theorem witness_WindowWriteStores :
    (rest.mailbox .pb).block.length = 252 ∧ (4 : Nat) ≤ (255 : Byte).toNat ∧ (255 : Byte).toNat + [(1 : Byte)].length ≤ 256 ∧
    (rest.mailbox .pb).state = .empty ∧ ([] : List Byte).length < 3 ∧ [(0x11 : Byte), 0, 0].head? ≠ some 0x10 := by decide

set_option maxRecDepth 20000 in
/-- A window of its sizes, and the first byte beyond a window. -/
theorem witness_ReadsShowTheWindow :
    (rest.mailbox .pc).sized = true ∧ rest.turret.state = .parked 1 ∧ rest.settings.stagePort = .pc ∧
    (positioning (.travel 1) 0).pendingOrder = some order ∧ (positioning (.travel 1) 0).arb.holder = some 0 ∧
    (positioning (.travel 1) 0).grantedPoint = some (point 0 .granted) ∧ rest.grantedPoint = none ∧
    rest.arb.rotation.length = 3 ∧ 0x400 ≤ (0x3FF + 1) % 65536 := by decide

theorem witness_LinesEndAndStart :
    (let s := rest.setMailbox .pa { rest.mailbox .pa with mode := .pulse, pulseActive := true, pulseScheduled := true }
     (s.mailbox .pa).pulseActive = true) ∧
    (let s := rest.setMailbox .pa { rest.mailbox .pa with mode := .pulse, pulseScheduled := true }
     (s.mailbox .pa).pulseScheduled = true ∧ (s.mailbox .pa).pulseActive = false) ∧
    (rest.mailbox .pa).pulseActive = false ∧ (rest.mailbox .pa).pulseScheduled = false := by decide

/-! ## Witnesses: the pins and the turret -/

theorem witness_TopLimitMovesTheActuator :
    (let s := State.reset
     s.arb.due = false ∧ s.act.state = .retracting ∧ s.act.held = none ∧ s.turret.moving = false ∧
        s.act.requester = some (.arbiter, .retract) ∧ s.arb.head = .unready) ∧
    (let s := { rest with act := { restAct with state := .retracting } }
     s.act.state = .retracting ∧ s.act.requester = none ∧ s.act.held = none ∧ s.turret.moving = false) ∧
    rest.act.state ≠ .retracting ∧ rest.turret.moving = false := by decide

def liftedAfterIndent : State :=
  { (busy .indenting) with
    act := { restAct with state := .retracting, requester := some (.cycle, .indent), stallTimer := true }
    pins := {}, cycle := { (busy .indenting).cycle with pendActuator := true, contactMade := true } }

theorem witness_RetractedAfterTheIndentStartsViewing :
    liftedAfterIndent.act.state = .retracting ∧ liftedAfterIndent.act.requester = some (.cycle, .indent) ∧
    liftedAfterIndent.act.held = none ∧ liftedAfterIndent.cycle.state = .indenting ∧
    liftedAfterIndent.cycle.pendTurret = false ∧ liftedAfterIndent.cycle.granted = some granted ∧
    liftedAfterIndent.cycle.objective = some 3 ∧ liftedAfterIndent.station 3 = .objective lens ∧
    liftedAfterIndent.turret.state = .parked 1 ∧ liftedAfterIndent.arb.due = false := by decide

theorem witness_StepsAreCounted :
    (positioning (.travel 1) 0).turret.state = .rotating (turning (.travel 1)) ∧
    (turning (.travel 1)).phase = .travel (0 + 1) ∧
    (positioning (.travel 0) 0).turret.state = .rotating (turning (.travel 0)) ∧
    (positioning (.stroke 159 true) 36).turret.state = .rotating (turning (.stroke 159 true)) ∧
    (turning (.stroke 159 true)).phase = .stroke 159 true ∧ 159 < 160 ∧
    (homing .unready (.search true) 17999 0).turret.state = .homing { phase := .search true, searched := 17999 } ∧
    (homing .unready .mark 2429 84).turret.state = .homing { phase := .mark, searched := 2429 } ∧
    (84 ≤ 25 + 16 * (4 : Station).val ∧ 15 + 16 * (4 : Station).val ≤ 84) ∧
    (homing .unready (.place 4 19 9599) 2449 84).turret.state =
      .homing { phase := .place 4 19 9599, searched := 2449 } ∧
    rest.turret.moving = false := by decide

theorem witness_TravelAndStrokeEnd :
    ((positioning (.travel 0) 0).turret.state = .rotating (turning (.travel 0)) ∧ (turning (.travel 0)).phase = .travel 0) ∧
    (turning (.travel 1)).phase ≠ .travel 0 ∧
    (let s := positioning (.stroke 160 true) 31
     (turning (.stroke 160 true)).phase = .stroke 160 true ∧ (turning (.stroke 160 true)).reading = false ∧
        s.turret.gated ≤ 25 + 16 * (turning (.stroke 160 true)).target.val ∧
        15 + 16 * (turning (.stroke 160 true)).target.val ≤ s.turret.gated ∧ (turning (.stroke 160 true)).req = .cycle ∧
        s.cycle.state = .positioning ∧ s.cycle.pendStage = true ∧ s.act.state = .retracted ∧ s.act.held = none ∧
        s.pins.topLimit = true ∧ s.arb.due = false) := by decide

/-- A stroke that ends with a count of 42, one above the band of station 1. -/
theorem witness_RotationFailureEndsThePoint :
    (let s := positioning (.stroke 160 true) 42
     s.turret.state = .rotating (turning (.stroke 160 true)) ∧ (turning (.stroke 160 true)).req = .cycle ∧
        25 + 16 * (turning (.stroke 160 true)).target.val < s.turret.gated ∧ s.arb.head = .busy ∧
        s.cycle.state = .positioning ∧ s.cycle.contactMade = false ∧ s.cycle.known = {} ∧
        s.cycleJob = some (granted, job) ∧ s.pendingOrder = some order ∧ s.act.state = .retracted ∧ s.act.held = none ∧
        s.pins.topLimit = true ∧ s.cap.state = .idle ∧ s.meas.run = none ∧ s.arb.due = false ∧
        s.pendingOf granted.slot ≠ []) := by decide

theorem witness_HomingEnds :
    (let s := homing .recovering (.place 4 20 9600) 2450 84
     s.turret.state = .homing { phase := .place 4 20 9600, searched := 2450 } ∧ s.arb.head = .recovering ∧
        s.act.state = .retracted ∧ s.act.held = none ∧ s.pins.topLimit = true ∧ s.arb.due = false ∧
        s.eligibleSlots = []) ∧
    (let s := homing .unready .mark 18000 700
     s.turret.state = .homing { phase := .mark, searched := 18000 } ∧ s.arb.head = .unready) := by decide

/-! ## Witnesses: acquisition, actuator, self-test -/

theorem witness_RoundEndPublishes :
    rest.arb.due = false ∧ rest.acq.refSwitched = false ∧ (List.replicate 8 (3 : Word16)).length = rest.acq.round.n ∧
    List.replicate 8 (3 : Word16) ≠ [] ∧ rest.act.state = .retracted ∧ (testing .force).acq.refSwitched = true := by decide

theorem witness_TablesPassThroughTheirPoints :
    2 ≤ tables.curve.length ∧ tables.curve.Pairwise (fun p q => p.1 < q.1) ∧
    tables.curve = (1200, 0) :: (21200, 5000) :: [] ∧ tables.curve = [] ++ [(1200, 0), (21200, 5000)] := by decide

/-- The readings of the worked example: 21 mN in APPROACHING, 487 mN in LOADING, 483 mN in DWELLING. -/
theorem witness_RoundsDriveTheIndent :
    forceReading tables.curve (rawMean (List.replicate 8 1284)) = some 21 ∧
    forceReading tables.curve (rawMean (List.replicate 8 3148)) = some 487 ∧
    forceReading tables.curve (rawMean (List.replicate 8 3132)) = some 483 ∧
    (let s := indenting .approaching
     s.arb.due = false ∧ s.acq.refSwitched = false ∧ s.acq.round.n = 8 ∧ s.act.params = some indentParams ∧
        s.cycle.state = .indenting ∧ s.act.tare = 0 ∧ s.act.state = .approaching) ∧
    ((indentParams.threshold : Int) ≤ 21 ∧ indentParams.force < ((21 : Int) - indentParams.force).natAbs * 100 ∧
      (21 : Int) * 10 ≤ 11 * indentParams.force ∧ (21 : Int) * 10 ≤ 11 * indentParams.maxForce) ∧
    (indenting .loading).act.state = .loading ∧ ((487 : Int) - indentParams.force).natAbs * 100 ≤ indentParams.force ∧
    (indenting .dwelling).act.state = .dwelling ∧
    ((483 : Int) - indentParams.force).natAbs * 50 ≤ indentParams.force := by decide

/-- An approach off the top limit, before contact. -/
def nearing : State :=
  { indenting .approaching with
    pins := {}
    act := { (indenting .approaching).act with
      contactMade := false, contactForce := none, contactDepth := none, target := none, dwellSum := 0, dwellCount := 0 } }

/-- An approach without contact: at the travel limit of 150 µm and one code of 5 nm beyond it, and with the force absent at
the converter's end. -/
theorem witness_RoundsDriveTheIndent_noContact :
    (let s := nearing
     s.arb.due = false ∧ s.acq.refSwitched = false ∧ s.acq.round.n = 8 ∧ s.act.params = some indentParams ∧
        s.cycle.state = .indenting ∧ s.act.state = .approaching ∧ s.act.contactMade = false ∧ s.pins.topLimit = false ∧ s.cycle.pendActuator = true ∧
        s.act.refDepth = some 80000 ∧ indentParams.travel * 1000 = 150000 ∧
        forceReading tables.curve (rawMean (List.replicate 8 1200)) = some 0 ∧ (0 : Int) - s.act.tare < indentParams.threshold ∧
        depthReading tables.depthZero tables.depthScale 26000 = some 230000 ∧
        depthReading tables.depthZero tables.depthScale 26001 = some 230005) ∧
    (forceReading [] (rawMean (List.replicate 8 1200)) = none ∧ (32767 : Word16).toInt = 32767) := by decide

/-- A reading without a force whose depth has run off the converter ends the approach (R93). -/
theorem test_forceless_reading_ends_the_approach :
    let s : State := { nearing with cal := { tables with curve := [] } }
    ((after (.roundEnd (List.replicate 8 1200) 32767) s).act.state = .retracting ∧
      (after (.roundEnd (List.replicate 8 1200) 32767) s).cycle.outcome = some .noContact) ∧
    (after (.roundEnd (List.replicate 8 1200) 26000) s).act.state = .approaching := by decide

theorem witness_ActuatorTimersExpire :
    (let s := indenting .dwelling
     s.arb.due = false ∧ s.act.state = .dwelling ∧ s.act.dwellTimer = true ∧ s.act.params = some indentParams ∧
        s.act.contactMade = true ∧ s.act.contactDepth = some 112350 ∧ s.acq.depth = some 114100 ∧
        s.cycle.state = .indenting) ∧
    (let s := indenting .loading
     s.act.state = .loading ∧ s.act.loadTimer = true ∧ s.act.contactMade = true ∧ s.act.contactDepth = some 112350 ∧
        s.acq.depth = some 114100 ∧ s.cycle.state = .indenting ∧ s.cycle.pendActuator = true ∧
        s.cycle.pendTurret = false ∧ s.pendingOrder = none ∧ s.cap.state = .idle ∧ s.meas.run = none ∧ s.arb.due = false) ∧
    (let s := State.reset
     s.act.state = .retracting ∧ s.act.stallTimer = true ∧ s.act.requester = some (.arbiter, .retract) ∧
        s.act.held = none ∧ s.arb.head = .unready ∧ s.arb.due = false) := by decide

/-- The force item with codes of 16 640, the last to pass, and the depth item with a code of 0. -/
theorem witness_ReferenceRoundIsJudged :
    (let s := testing .force
     s.acq.refSwitched = true ∧ (List.replicate 8 (16640 : Word16)).length = s.acq.round.n ∧
        s.selftest.run = some { port := .pb, item := .force, todo := [], done := 1, visits := 6 } ∧
        s.arb.head = .selftest ∧ s.arb.testFault = false ∧ (s.mailbox .pb).state = .working ∧ s.arb.due = false ∧
        s.eligibleSlots = []) ∧
    (rawMean (List.replicate 8 16640) - 16384).natAbs ≤ 256 ∧
    (testing .depth).selftest.run = some { port := .pb, item := .depth, todo := [], done := 1, visits := 6 } ∧
    256 < ((0 : Word16).toInt - -16384).natAbs := by decide

theorem witness_FrameStoreItemEnds :
    (let s := testing .address
     s.selftest.run = some { port := .pb, item := .address, todo := [], done := 1, visits := 6 } ∧
        s.arb.head = .selftest ∧ s.arb.testFault = false ∧ (s.mailbox .pb).state = .working ∧ s.arb.due = false ∧
        s.eligibleSlots = []) ∧
    (let b : BadByte := { fill := 0, buffer := 1, row := 959, col := 959, read := 0 }
     b.read ≠ BitVec.ofNat 8 (b.col.val + 7 * b.row.val + 131 * b.buffer.val) ∧ b.read ≠ 85) ∧
    (testing .pattern).selftest.run = some { port := .pb, item := .pattern, todo := [], done := 1, visits := 6 } ∧
    (TestItem.address ≠ .turret ∧ TestItem.force ≠ .turret) := by decide

/-! ## Witnesses: capture and measurement -/

set_option maxRecDepth 20000 in
theorem witness_LinkItemsAreTaken :
    (capturing .exposing .a 0 []).cap.state = .exposing ∧
    (let s := capturing .receiving .a 312 (List.replicate 1280 3)
     s.cap.state = .receiving ∧ s.cap.request = some capRequest ∧ s.cap.roi = some (roiFor 200 640 512) ∧
        s.cap.lineCount ≠ 1024 ∧ s.cap.line.length = 1280 ∧ s.cap.line.sum % 65536 = (3840 : Word16).toNat ∧
        s.cap.line.sum % 65536 ≠ (3841 : Word16).toNat ∧
        (roiFor 200 640 512).col0 + 2 * (roiFor 200 640 512).hEff ≤ 1280) ∧
    (capturing .receiving .a 1024 []).cap.lineCount = 1024 ∧ (capturing .receiving .b 312 []).cap.exposure = some .b ∧
    (capturing .receiving .a 312 []).cap.line.length ≠ 1280 := by decide

/-- Row 711 is the last of the ROI, so 712 lines are enough. -/
theorem witness_FrameEndCompletesTheCapture :
    (let s := capturing .receiving .a 712 []
     s.cap.state = .receiving ∧ s.cap.request = some capRequest ∧ s.cap.roi = some (roiFor 200 640 512) ∧
        (roiFor 200 640 512).row0 + 2 * (roiFor 200 640 512).hEff ≤ s.cap.lineCount ∧ s.arb.due = false ∧
        s.cap.exposure = some .a) ∧
    (let s := capturing .receiving .b 712 []
     s.cap.exposure ≠ some .a ∧ s.cycleJob = some (granted, job) ∧ s.cycle.objective = some 3 ∧
        s.station 3 = .objective lens ∧ s.meas.run = none) := by decide

/-- A frame one line short, at its first and at its second failure, and a discard with a noted kind. -/
theorem witness_FailedFramesRestart :
    (let s := capturing .receiving .a 711 []
     s.arb.due = false ∧ s.cap.request = some capRequest ∧ s.cap.roi = some (roiFor 200 640 512) ∧
        s.cap.state = .receiving ∧ s.cap.retryCount = 0 ∧ s.cap.frameTimer = true ∧
        s.cap.lineCount < (roiFor 200 640 512).row0 + 2 * (roiFor 200 640 512).hEff) ∧
    (let c := (capturing .discarding .a 3 []).cap
     let s : State := { capturing .discarding .a 3 [] with
       cap := { c with retryCount := 1, lastDetail := some (.sumMismatch, 3) }, results := { reserved := 96 } }
     s.cap.state = .discarding ∧ s.cap.lastDetail = some (.sumMismatch, 3) ∧ s.cap.retryCount = 1 ∧
        s.cycle.state = .capturing ∧ s.arb.head = .busy ∧ s.cycle.haltOnEnd = false ∧
        s.cycleJob = some (granted, job) ∧ s.pendingOf granted.slot ≠ [] ∧ s.act.atRest = true ∧
        s.cycle.pendTurret = false ∧ s.pendingOrder = none ∧ s.meas.run = none ∧ s.results.free = 0) ∧
    ((capturing .waiting .a 0 []).cap.state = .waiting ∧ (capturing .waiting .a 0 []).cap.request = some capRequest) ∧
    rest.cap.state = .idle := by decide

/-- An 8 by 8 image, 255 but for a dark square of four by four in its middle. -/
def smallImage : Memory :=
  (List.range 8).foldl (fun m r => Memory.write m (frameAddr 1 r 0)
    ((List.range 8).map fun c => if 2 ≤ r ∧ r ≤ 5 ∧ 2 ≤ c ∧ c ≤ 5 then 0 else 255)) []

def smallRequest : MeasRequest :=
  { imageId := 517, hEff := 4, threshold := some 100, objective := 3, corr := 8, scale := 26624 }

def measuring : State :=
  { (busy .measuring) with
    frames := { mem := smallImage, lastId := some 517, lastHEff := some 4 }
    meas := { run := some { req := smallRequest, work := firstWork (some 100) } }
    results := { reserved := 96 }
    cycle := { (busy .measuring).cycle with known := { force := some 490 } } }

theorem witness_MeasurementEndWritesTheRecord :
    ∃ w, measuring.meas.run = some { req := smallRequest, work := firstWork (some 100) } ∧
      measurePass (measCtxOf smallRequest measuring) = .finished w ∧ w.diags = some (416, 416) ∧
      measuring.cycleJob = some (granted, job) ∧ measuring.cycle.known.force = some 490 ∧ measuring.arb.head = .busy ∧
      measuring.cycle.haltOnEnd = false ∧ measuring.pendingOf granted.slot ≠ [] ∧ measuring.results.free = 0 ∧
      measuring.arb.due = false :=
  ⟨_, by decide, rfl, by decide, by decide, by decide, by decide, by decide, by decide, by decide, by decide⟩

/-! ## Witnesses: decisions and invariants -/

def twoJobs : State :=
  { (rest.setSlot 0 { job := some job }).setSlot 1 { job := some { job with owner := .pb, openSeq := 1 } } with
    points := [point 0 .pending, { point 0 .pending with slot := 1 }] }

/-- A new grant to PA's job, and a burst grant to PB's when it holds the burst. -/
theorem witness_ChoiceFollowsTheRules :
    twoJobs.choose = some (0, false) ∧
    ({ twoJobs with arb := { head := .idle, holder := some 1, burst := 1 } } : State).choose = some (1, true) ∧
    twoJobs.rotationWf = true ∧ twoJobs.eligible 0 = true := by decide

def unholding : State :=
  posting .pa 0x0104 [0] (withPoints { job with held := true } [point 0 .pending, point 1 .pending] { rest with turret := { state := .parked 3 } })

theorem witness_UnholdGrantsThePoint :
    unholding.posted .pa 0x0104 = true ∧
    unholding.findJob (handleAt (unholding.blockOf .pa)) = some (0, { job with held := true }) ∧
    unholding.pendingOf 0 = [point 0 .pending, point 1 .pending] ∧ unholding.grantedOf 0 = none ∧
    unholding.eligibleSlots = [] ∧ unholding.arb.head = .idle ∧ unholding.arb.holder = none ∧
    unholding.rotationWf = true ∧ unholding.results.free ≠ 0 ∧ unholding.arb.due = false ∧ unholding.cycle = {} ∧
    stationCheck params (unholding.station 1) (unholding.station 3) = true ∧ unholding.turret.state = .parked 3 ∧
    unholding.act.state = .retracted := by decide

/-- Two pairs of one mean (R140's second and fourth rows) and two of one long diagonal (R141's first and second), with an
indenter of each profile. -/
theorem witness_SquareDiagonalIsTheMean :
    diagonalUsed .sp 11700 12300 = 12000 ∧ diagonalUsed .sp 11990 12010 = 12000 ∧
    (rest.indenterOf params.indenter).profile = .sp := by decide
theorem witness_RhombicDiagonalIsTheLongOne :
    ((rest.setStation 1 (.indenter { noIndenter with profile := .rb })).indenterOf params.indenter).profile = .rb ∧
    isMisshapen .rb 80000 16000 = false ∧ isMisshapen .rb 80000 16001 = true := by decide

set_option maxRecDepth 20000 in
/-- Working states that meet every invariant and go on: a rotation under way and an idle machine. -/
theorem witness_invariants :
    (let s := positioning (.travel 1) 0
     s.rotationWf = true ∧ s.mapWf = true ∧ s.verifWf = true ∧ s.burstWf = true ∧ s.windowsWf = true ∧ s.waitWf = true ∧
        s.haltWf = true ∧ s.quiet = true ∧ s.interlock = true ∧ s.turret.moving = true ∧ s.framesWf = true ∧
        s.roiWf = true ∧ s.accountWf = true) ∧
    (measuring.framesWf = true ∧ measuring.roiWf = true) := by decide

theorem witness_StepsKeepTheTables : ∃ t, step (positioning (.travel 1) 0) = .next t := ⟨_, rfl⟩
theorem witness_StepsKeepTheInterlock :
    ∃ t, (positioning (.travel 1) 0).interlock = true ∧ step (positioning (.travel 1) 0) = .next t :=
  ⟨_, by decide, rfl⟩
theorem witness_StepsKeepTheFrameStore : ∃ t, measuring.framesWf = true ∧ measuring.roiWf = true ∧ step measuring = .next t :=
  ⟨_, by decide, by decide, rfl⟩
theorem witness_StepsKeepTheReservations :
    ∃ t, (positioning (.travel 1) 0).accountWf = true ∧ step (positioning (.travel 1) 0) = .next t :=
  ⟨_, by decide, rfl⟩

end Sys2Proof.Tests
end

section
/-! PROOFS. The choice of a decision (R25): what each list and search of the arbiter's choice holds, then the two grants
and the existence of a choice. -/

namespace Sys2Proof.Machine

/-! ## The candidates -/

@[simp] theorem mem_allSlots (i : Slot) : i ∈ allSlots := by
  revert i; decide

@[simp] theorem mem_eligibleSlots {s : State} {i : Slot} : i ∈ s.eligibleSlots ↔ s.eligible i = true := by
  simp [State.eligibleSlots]

/-- R25 step 1. -/
theorem mem_bestSlots {s : State} {i : Slot} :
    i ∈ s.bestSlots ↔ s.eligible i = true ∧ ∀ k, s.eligible k = true → s.priority i ≤ s.priority k := by
  simp [State.bestSlots]

theorem exists_job_of_eligible {s : State} {i : Slot} (h : s.eligible i = true) : ∃ j, (s.slot i).job = some j := by
  cases hj : (s.slot i).job with
  | some j => exact ⟨j, rfl⟩
  | none => simp [State.eligible, hj] at h

/-- Among finitely many slots a best priority is reached. -/
theorem exists_mem_bestSlots {s : State} {i : Slot} (h : s.eligible i = true) : ∃ k, k ∈ s.bestSlots := by
  obtain ⟨k, hk, hmin⟩ := Finset.exists_min_image (Finset.univ.filter fun k => s.eligible k = true) s.priority
    ⟨i, by simpa using h⟩
  exact ⟨k, mem_bestSlots.mpr ⟨by simpa using hk, fun m hm => hmin m (by simpa using hm)⟩⟩

theorem owner?_eq_some {s : State} {i : Slot} {p : Port} :
    s.owner? i = some p ↔ ∃ j, (s.slot i).job = some j ∧ j.owner = p := by
  simp [State.owner?]

/-- R25 step 2. -/
theorem burstLeft_iff {s : State} {i : Slot} :
    s.burstLeft i = true ↔
      ∃ j, (s.slot i).job = some j ∧ s.arb.holder = some (s.handle i) ∧ s.arb.burst < j.params.burst := by
  cases hj : (s.slot i).job <;> simp [State.burstLeft, hj]

/-! ## The orders -/

@[simp] theorem mem_allPorts (p : Port) : p ∈ allPorts := by
  cases p <;> decide

theorem mem_portOrder {s : State} (h : s.rotationWf = true) (p : Port) : p ∈ s.portOrder := by
  unfold State.portOrder
  split
  · simp only [State.rotationWf, Bool.and_eq_true, List.all_eq_true, List.contains_iff_mem] at h
    obtain ⟨-, hall⟩ := h
    exact hall p (mem_allPorts p)
  · exact mem_allPorts p

theorem openSeqOf_of_job {s : State} {i : Slot} {j : Job} (h : (s.slot i).job = some j) :
    s.openSeqOf i = j.openSeq.toNat := by
  simp [State.openSeqOf, h]

theorem oldest_cons (s : State) (i : Slot) (is : List Slot) :
    s.oldest (i :: is) = match s.oldest is with
      | none => some i
      | some k => if s.openSeqOf k < s.openSeqOf i then some k else some i := rfl

theorem oldest_eq_none {s : State} {l : List Slot} : s.oldest l = none ↔ l = [] := by
  cases l with
  | nil => exact iff_of_true rfl rfl
  | cons i is =>
    rw [oldest_cons]
    cases s.oldest is with
    | none => simp
    | some k => by_cases hk : s.openSeqOf k < s.openSeqOf i <;> simp [hk]

/-- R25 step 4. -/
theorem oldest_spec {s : State} {l : List Slot} {m : Slot} (h : s.oldest l = some m) :
    m ∈ l ∧ ∀ k ∈ l, s.openSeqOf m ≤ s.openSeqOf k := by
  induction l generalizing m with
  | nil => cases h
  | cons i is ih =>
    rw [oldest_cons] at h
    cases hr : s.oldest is with
    | none =>
      obtain rfl := oldest_eq_none.mp hr
      simp only [hr] at h
      obtain rfl := Option.some.inj h
      simp
    | some n =>
      obtain ⟨hn, hmin⟩ := ih hr
      simp only [hr] at h
      split at h
      next hlt =>
        obtain rfl := Option.some.inj h
        exact ⟨List.mem_cons_of_mem i hn, List.forall_mem_cons.mpr ⟨hlt.le, hmin⟩⟩
      next hge =>
        obtain rfl := Option.some.inj h
        exact ⟨List.mem_cons_self, List.forall_mem_cons.mpr ⟨le_rfl, fun k hk => (not_lt.mp hge).trans (hmin k hk)⟩⟩

/-! ## The choice -/

/-- A port owns a job of the best priority (R25 step 3). -/
def State.ownsBest (s : State) (p : Port) : Bool := s.bestSlots.any fun i => s.owner? i = some p

theorem ownsBest_iff {s : State} {p : Port} : s.ownsBest p = true ↔ ∃ i ∈ s.bestSlots, s.owner? i = some p := by
  simp [State.ownsBest]

theorem choose_of_burst {s : State} {i : Slot} (h : s.bestSlots.find? s.burstLeft = some i) :
    s.choose = some (i, true) := by
  simp [State.choose, h]

theorem choose_of_no_burst {s : State} (h : s.bestSlots.find? s.burstLeft = none) :
    s.choose = (s.portOrder.find? s.ownsBest).bind fun p =>
      (s.oldest (s.bestSlots.filter fun i => s.owner? i = some p)).map fun i => (i, false) := by
  simp only [State.choose, h]
  split
  next p hp => rw [show s.portOrder.find? s.ownsBest = some p from hp, Option.bind_some]
  next hp => rw [show s.portOrder.find? s.ownsBest = none from hp, Option.bind_none]

/-- The one way to a burst grant. -/
theorem choose_burst {s : State} {i : Slot} (h : s.choose = some (i, true)) :
    i ∈ s.bestSlots ∧ s.burstLeft i = true := by
  cases hb : s.bestSlots.find? s.burstLeft with
  | some k =>
    obtain rfl : k = i := by simpa [choose_of_burst hb] using h
    exact ⟨List.mem_of_find?_eq_some hb, List.find?_some hb⟩
  | none => simp [choose_of_no_burst hb, Option.bind_eq_some_iff] at h

/-- The one way to a new grant: no burst goes on, and a port is found and its oldest best job. -/
theorem choose_new {s : State} {i : Slot} (h : s.choose = some (i, false)) :
    s.bestSlots.find? s.burstLeft = none ∧ ∃ p, s.portOrder.find? s.ownsBest = some p ∧
      s.oldest (s.bestSlots.filter fun k => s.owner? k = some p) = some i := by
  cases hb : s.bestSlots.find? s.burstLeft with
  | some k => simp [choose_of_burst hb] at h
  | none => simpa [choose_of_no_burst hb, Option.bind_eq_some_iff] using h

theorem choose_ne_none {s : State} (hwf : s.rotationWf = true) {i : Slot} (hi : s.eligible i = true) :
    s.choose ≠ none := by
  cases hb : s.bestSlots.find? s.burstLeft with
  | some k => simp [choose_of_burst hb]
  | none =>
    obtain ⟨k, hk⟩ := exists_mem_bestSlots hi
    obtain ⟨j, hj⟩ := exists_job_of_eligible (mem_bestSlots.mp hk).1
    have howns : s.ownsBest j.owner = true := ownsBest_iff.mpr ⟨k, hk, owner?_eq_some.mpr ⟨j, hj, rfl⟩⟩
    obtain ⟨p, hp⟩ : ∃ p, s.portOrder.find? s.ownsBest = some p :=
      Option.isSome_iff_exists.mp (List.find?_isSome.mpr ⟨j.owner, mem_portOrder hwf j.owner, howns⟩)
    obtain ⟨m, hm, hown⟩ := ownsBest_iff.mp (List.find?_some hp)
    have hne : s.oldest (s.bestSlots.filter fun i => s.owner? i = some p) ≠ none := fun h0 =>
      List.ne_nil_of_mem (List.mem_filter.mpr ⟨hm, by simpa using hown⟩) (oldest_eq_none.mp h0)
    simpa [choose_of_no_burst hb, hp] using hne

/-- A new grant goes to the first port of the order that owns a best job, and to its smallest open sequence. -/
theorem choose_new_port {s : State} {i : Slot} (h : s.choose = some (i, false)) :
    i ∈ s.bestSlots ∧ ∃ j before after, (s.slot i).job = some j ∧ s.portOrder = before ++ j.owner :: after ∧
      (∀ k ∈ s.bestSlots, ∀ jk, (s.slot k).job = some jk → jk.owner ∉ before) ∧
      (∀ k ∈ s.bestSlots, ∀ jk, (s.slot k).job = some jk → jk.owner = j.owner →
        j.openSeq.toNat ≤ jk.openSeq.toNat) := by
  obtain ⟨-, p, hport, hold⟩ := choose_new h
  obtain ⟨hmem, hmin⟩ := oldest_spec hold
  simp only [List.mem_filter, decide_eq_true_eq] at hmem hmin
  obtain ⟨hbest, hown⟩ := hmem
  obtain ⟨j, hj, rfl⟩ := owner?_eq_some.mp hown
  obtain ⟨-, before, after, horder, hearlier⟩ := List.find?_eq_some_iff_append.mp hport
  refine ⟨hbest, j, before, after, hj, horder, fun k hk jk hjk hbefore => ?_, fun k hk jk hjk heq => ?_⟩
  · have howns : s.ownsBest jk.owner = true := ownsBest_iff.mpr ⟨k, hk, owner?_eq_some.mpr ⟨jk, hjk, rfl⟩⟩
    simpa [howns] using hearlier jk.owner hbefore
  · have hle := hmin k ⟨hk, owner?_eq_some.mpr ⟨jk, hjk, heq⟩⟩
    rwa [openSeqOf_of_job hj, openSeqOf_of_job hjk] at hle

/-- Settles O52: the two grants from the one way to each, the choice from a best job whose owner the order holds. -/
theorem choiceFollowsTheRules : Obligations.ChoiceFollowsTheRules := by
  unfold Obligations.ChoiceFollowsTheRules
  intro s
  simp only [← mem_bestSlots, ← burstLeft_iff]
  refine ⟨fun i h => choose_burst h, fun i h => ?_, fun hwf ⟨i, hi⟩ => choose_ne_none hwf hi⟩
  obtain ⟨hnone, -⟩ := choose_new h
  obtain ⟨hbest, j, before, after, hj, horder, hport, hseq⟩ := choose_new_port h
  exact ⟨hbest, List.find?_eq_none.mp hnone, j, before, after, hj, horder,
    fun k jk hk => hport k hk jk, fun k jk hk => hseq k hk jk⟩

end Sys2Proof.Machine
end

section
/-! PROOFS. The diagonal used of a record (R140, R141): the measured pair enters a record through its diagonal used, itself
and the two shape flags, and the end of a point leaves the indent map alone. -/

namespace Sys2Proof.Machine

/-! ## What the end of a point leaves of the indent map -/

@[simp] theorem writeRecord_map (r : Record) (s : State) : (writeRecord r s).map = s.map := by
  unfold writeRecord; simp only; split
  · rw [raiseTerm_map]
  · rfl

@[simp] theorem countRecord_map (p : JobParams) (s : State) : (countRecord p s).map = s.map := by
  unfold countRecord; split <;> rfl

@[simp] theorem State.updateJob_map (i : Slot) (f : Job → Job) (s : State) : (s.updateJob i f).map = s.map := by
  unfold State.updateJob; split <;> rfl

@[simp] theorem offsetCorrection_map (i : Slot) (p : JobParams) (acc : Accum) (s : State) :
    (offsetCorrection i p acc s).map = s.map := by
  unfold offsetCorrection; split
  · split
    · simp only [State.setSlot_map, restartWhere_map, State.setStation_map]
    · rfl
  · rfl

@[simp] theorem jobEndTables_map (i : Slot) (j : Job) (acc : Accum) (reason : Reason) (s : State) :
    (jobEndTables i j acc reason s).map = s.map := by
  unfold jobEndTables; split
  · cases j.params.kind with
    | verify => rfl
    | offsetCal => exact offsetCorrection_map i j.params acc s
    | measure => rfl
  · rfl

@[simp] theorem freeJobSlot_map (i : Slot) (s : State) : (freeJobSlot i s).map = s.map := by
  unfold freeJobSlot; simp only; split <;> rfl

@[simp] theorem endJob_map (i : Slot) (reason : Reason) (s : State) : (endJob i reason s).map = s.map := by
  unfold endJob; split
  · rw [freeJobSlot_map, writeRecord_map, jobEndTables_map]
  · rfl

@[simp] theorem finishTest_map (i : Slot) (s : State) : (finishTest i s).map = s.map := by
  unfold finishTest; split
  · split
    · rw [endJob_map]
    · rfl
  · rfl

@[simp] theorem haltHead_map (s : State) : (haltHead s).map = s.map := by
  unfold haltHead; split
  · rfl
  · simp only [raiseTerm_map]

@[simp] theorem cycleReturn_map (s : State) : (cycleReturn s).map = s.map := by
  unfold cycleReturn; simp only; split
  · rw [haltHead_map]
  · rw [idleHead_map]

/-- The map takes its entry before a point ends (R166); the end itself leaves it alone. -/
theorem endPoint_map (g : Granted) (j : Job) (st : Status) (body : PointBody) (off : Int × Int) (s : State) :
    (endPoint g j st body off s).map = s.map := by
  simp only [endPoint, cycleReturn_map, finishTest_map, State.setSlot_map, State.updateJob_map, dropGranted_map,
    countRecord_map, writeRecord_map]

/-- R139: the hand-over adds one entry to the map, and of the measured values it holds the diagonal used alone. -/
theorem hardnessRecord_map (g : Granted) (j : Job) (m : Measured) (s : State) :
    (hardnessRecord g j m s).map = (addMapEntry
      { specimen := j.params.specimen, x := g.x, y := g.y
        diag := mapDiagonal (diagonalUsed (s.indenterOf j.params.indenter).profile m.dx m.dy)
        recordId := s.newRecordId } s).map :=
  endPoint_map ..

/-! ## The diagonal used -/

/-- R140. -/
theorem diagonalUsed_sp_bounds (dx dy : Int) :
    2 * diagonalUsed .sp dx dy ≤ dx + dy + 1 ∧ dx + dy ≤ 2 * diagonalUsed .sp dx dy := by
  have hmean : diagonalUsed .sp dx dy = (2 * (dx + dy) + 2) / 4 := rfl
  omega

/-- R141. -/
@[simp] theorem diagonalUsed_rb (dx dy : Int) : diagonalUsed .rb dx dy = dx := rfl

theorem isAsymmetric_sp_iff (dx dy : Int) :
    isAsymmetric .sp dx dy = true ↔ 5 * diagonalUsed .sp dx dy < (dx - dy).natAbs * 100 := decide_eq_true_iff

theorem isMisshapen_rb_iff (dx dy : Int) : isMisshapen .rb dx dy = true ↔ dx < 5 * dy := decide_eq_true_iff

section
variable {j : Job} {c : Cycle} {p : Profile} {m m' : Measured} {s : State} {g : Granted}

/-- Two measurements of one diagonal used differ in the two shape flags alone. -/
theorem hardnessFlags_of_diagonal (hd : diagonalUsed p m'.dx m'.dy = diagonalUsed p m.dx m.dy) (hs : m'.small = m.small) :
    hardnessFlags j c p m' s g = { hardnessFlags j c p m s g with
      asymmetric := isAsymmetric p m'.dx m'.dy, shape := isMisshapen p m'.dx m'.dy } := by
  simp only [hardnessFlags, hd, hs]

/-- Two measurements of one diagonal used leave one record but for the pair and the two shape flags. -/
theorem hardnessBody_of_diagonal (hd : diagonalUsed p m'.dx m'.dy = diagonalUsed p m.dx m.dy) (hs : m'.small = m.small) :
    hardnessBody j c p m' s g = { hardnessBody j c p m s g with
      diags := some (m'.dx, m'.dy)
      flags := { hardnessFlags j c p m s g with
        asymmetric := isAsymmetric p m'.dx m'.dy, shape := isMisshapen p m'.dx m'.dy } } := by
  rw [← hardnessFlags_of_diagonal hd hs]
  simp only [hardnessBody, hd]

/-- Two measurements of one diagonal used leave one indent map. -/
theorem hardnessRecord_map_of_diagonal (hp : (s.indenterOf j.params.indenter).profile = p)
    (hd : diagonalUsed p m'.dx m'.dy = diagonalUsed p m.dx m.dy) :
    (hardnessRecord g j m' s).map = (hardnessRecord g j m s).map := by
  rw [hardnessRecord_map, hardnessRecord_map, hp, hd]

end

/-- Settles O54: past the two shape flags only the mean is read, and SHAPE is clear for both pairs. -/
theorem squareDiagonalIsTheMean : Obligations.SquareDiagonalIsTheMean := by
  unfold Obligations.SquareDiagonalIsTheMean
  intro j c m g s
  obtain ⟨hle, hge⟩ := diagonalUsed_sp_bounds m.dx m.dy
  exact ⟨hle, hge, isAsymmetric_sp_iff m.dx m.dy, rfl, fun m' hd hs =>
    ⟨hardnessBody_of_diagonal hd hs, fun hp => hardnessRecord_map_of_diagonal hp hd⟩⟩

/-- Settles O55: past the two shape flags only the long diagonal is read, and ASYMMETRIC is clear for both pairs. -/
theorem rhombicDiagonalIsTheLongOne : Obligations.RhombicDiagonalIsTheLongOne := by
  unfold Obligations.RhombicDiagonalIsTheLongOne
  intro j c m g s
  exact ⟨diagonalUsed_rb m.dx m.dy, isMisshapen_rb_iff m.dx m.dy, rfl, fun m' hd hs =>
    ⟨hardnessBody_of_diagonal hd hs, fun hp => hardnessRecord_map_of_diagonal hp hd⟩⟩

end Sys2Proof.Machine
end

section
/-! PROOFS. PORT_CONFIG (R198): what an answer leaves of its port's mailbox, the command as one write of that mailbox, and the
attention line that the mode it sets gives. -/

namespace Sys2Proof.Machine

/-! ## Commands that change their own port's mailbox alone -/

theorem setMailbox_setMailbox (s : State) (p : Port) (m m' : Mailbox) :
    (s.setMailbox p m).setMailbox p m' = s.setMailbox p m' := by
  cases p <;> rfl

theorem othersKept_setMailbox (p : Port) (m : Mailbox) (s : State) : OthersKept p s (s.setMailbox p m) :=
  fun _ hq => mailbox_setMailbox_ne s hq m

theorem onlyAnswered_setMailbox (p : Port) (r : Reply) (s : State) :
    OnlyAnswered p r s (s.setMailbox p (answeredMailbox (s.mailbox p) r)) :=
  ⟨rfl, mailbox_setMailbox s p _, othersKept_setMailbox p _ s⟩

/-- A command that leaves its port's mailbox WORKING and changes nothing else is one write of that mailbox: the answer's. -/
theorem runCommand_of_setMailbox {code : Word16} {p : Port} {s : State} {body : List Byte → State → State × Reply}
    {m : Mailbox} {r : Reply} (h : s.posted p code = true)
    (hbody : body (s.blockOf p) (takeCommand p s) = (s.setMailbox p { m with state := .working }, r)) :
    runCommand code p body s = s.setMailbox p (answeredMailbox m r) := by
  have hworking : ((s.setMailbox p { m with state := .working }).mailbox p).state = .working := by simp
  rw [runCommand_of_posted body h, ← State.blockOf, hbody, answer_of_working r hworking, mailbox_setMailbox,
    setMailbox_setMailbox]
  rfl

/-! ## The answered mailbox (R191, R197) -/

@[simp] theorem answeredMailbox_state (m : Mailbox) (r : Reply) : (answeredMailbox m r).state = .answered := pulsed_state _
@[simp] theorem answeredMailbox_mode (m : Mailbox) (r : Reply) : (answeredMailbox m r).mode = m.mode := pulsed_mode _
@[simp] theorem answeredMailbox_response (m : Mailbox) (r : Reply) :
    (answeredMailbox m r).response = responseBlock m r := pulsed_response _

/-- In LEVEL mode an answer leaves the pulses alone. -/
theorem answeredMailbox_of_level {m : Mailbox} (r : Reply) (h : m.mode = .level) :
    answeredMailbox m r = { m with state := .answered, response := responseBlock m r, prev := m.code } := by
  simp [answeredMailbox, pulsed, h]

/-- In PULSE mode an answer starts a pulse when none is active or scheduled. -/
theorem answeredMailbox_of_pulse {m : Mailbox} (r : Reply) (h : m.mode = .pulse) (ha : m.pulseActive = false)
    (hs : m.pulseScheduled = false) :
    answeredMailbox m r =
      { m with state := .answered, response := responseBlock m r, prev := m.code, pulseActive := true } := by
  simp [answeredMailbox, pulsed, h, ha, hs]

/-! ## The mode of a mailbox (R198) -/

/-- A mailbox with its attention mode set: what `setAttnMode` writes. -/
def Mailbox.withMode (mode : AttnMode) (m : Mailbox) : Mailbox :=
  if m.mode = mode then m else { m with mode := mode, pulseActive := false, pulseScheduled := false }

theorem setAttnMode_eq (p : Port) (mode : AttnMode) (s : State) :
    setAttnMode p mode s = s.setMailbox p ((s.mailbox p).withMode mode) := by
  unfold setAttnMode Mailbox.withMode
  split
  · rw [setMailbox_self]
  · rfl

theorem Mailbox.withMode_of_eq {mode : AttnMode} {m : Mailbox} (h : mode = m.mode) : m.withMode mode = m :=
  if_pos h.symm

theorem Mailbox.withMode_of_ne {mode : AttnMode} {m : Mailbox} (h : mode ≠ m.mode) :
    m.withMode mode = { m with mode := mode, pulseActive := false, pulseScheduled := false } :=
  if_neg h.symm

@[simp] theorem Mailbox.withMode_mode (mode : AttnMode) (m : Mailbox) : (m.withMode mode).mode = mode := by
  unfold Mailbox.withMode
  split
  next h => exact h
  next => rfl

/-- Setting the mode keeps everything but the mode and the pulses. -/
theorem Mailbox.withMode_eq (mode : AttnMode) (m : Mailbox) :
    m.withMode mode = { m with
      mode := mode, pulseActive := (m.withMode mode).pulseActive, pulseScheduled := (m.withMode mode).pulseScheduled } := by
  by_cases h : mode = m.mode
  · subst h; rw [Mailbox.withMode_of_eq rfl]
  · rw [Mailbox.withMode_of_ne h]

theorem Mailbox.withMode_setState (mode : AttnMode) (m : Mailbox) (st : MailboxState) :
    ({ m with state := st } : Mailbox).withMode mode = { m.withMode mode with state := st } := by
  unfold Mailbox.withMode
  split
  next => rfl
  next => rfl

@[simp] theorem responseBlock_withMode (mode : AttnMode) (m : Mailbox) (r : Reply) :
    responseBlock (m.withMode mode) r = responseBlock m r := by
  rw [Mailbox.withMode_eq]; rfl

/-- A change of the mode ends every pulse; the answer that follows gives one in PULSE mode and none in LEVEL mode. -/
theorem pulses_of_mode_change {mode : AttnMode} {m : Mailbox} (r : Reply) (h : mode ≠ m.mode) :
    (answeredMailbox (m.withMode mode) r).pulseScheduled = false ∧
      (answeredMailbox (m.withMode mode) r).pulseActive = (mode = .pulse) := by
  rw [Mailbox.withMode_of_ne h]
  cases mode with
  | level => rw [answeredMailbox_of_level r rfl]; simp
  | pulse => rw [answeredMailbox_of_pulse r rfl rfl rfl]; simp

/-! ## The attention line (R196, R197) -/

theorem attnCondition_of_answered {s : State} {p : Port} (h : (s.mailbox p).state = .answered) :
    attnCondition s p = true := by
  simp [attnCondition, attnTerms, h]

theorem attnLine_of_level {s : State} {p : Port} (h : (s.mailbox p).mode = .level) : attnLine s p = attnCondition s p := by
  simp only [attnLine, h]

theorem attnLine_of_pulse {s : State} {p : Port} (h : (s.mailbox p).mode = .pulse) :
    attnLine s p = (s.mailbox p).pulseActive := by
  simp only [attnLine, h]

section
variable {t : State} {p : Port} {mode : AttnMode} {m : Mailbox} {r : Reply}
  (hbox : t.mailbox p = answeredMailbox (m.withMode mode) r)
include hbox

/-- Answered in LEVEL mode, the port shows its condition, which its answer makes true. -/
theorem attnLine_of_answered_level (hlevel : mode = .level) : attnLine t p = attnCondition t p ∧ attnLine t p = true := by
  have hline : attnLine t p = attnCondition t p := attnLine_of_level (by simp [hbox, hlevel])
  exact ⟨hline, hline.trans (attnCondition_of_answered (by simp [hbox]))⟩

/-- Changed to PULSE mode, the port shows the pulse of the answer. -/
theorem attnLine_of_change_to_pulse (hpulse : mode = .pulse) (hne : mode ≠ m.mode) : attnLine t p = true := by
  obtain ⟨-, hactive⟩ := pulses_of_mode_change r hne
  rw [attnLine_of_pulse (by simp [hbox, hpulse]), hbox, hactive]
  exact hpulse

end

/-! ## PORT_CONFIG -/

theorem byteIn_eq_none_of_lt {blk : List Byte} {off lo hi : Nat} (h : hi < readU blk off 1) :
    byteIn blk off lo hi = none :=
  if_neg fun hrange => h.not_ge hrange.2

theorem attnModeParam_eq_none {blk : List Byte} (h : 1 < readU blk 0 1) : attnModeParam blk = none := by
  simp only [attnModeParam, boolAt, byteIn_eq_none_of_lt h, Option.map_none]

theorem exec_portConfig (p : Port) (s : State) :
    exec (.portConfig p) s = .next (runCommand 0x0505 p (portConfigBody p) s) := rfl

section
variable {p : Port} {s : State} (h : s.posted p 0x0505 = true)
include h

theorem exec_portConfig_of_none (hmode : attnModeParam (s.blockOf p) = none) :
    exec (.portConfig p) s = .next (s.setMailbox p (answeredMailbox (s.mailbox p) (refuse .badParam))) := by
  have hbody : portConfigBody p (s.blockOf p) (takeCommand p s) = (takeCommand p s, refuse .badParam) := by
    simp only [portConfigBody, hmode]
  rw [exec_portConfig, runCommand_of_setMailbox h hbody]

/-- The mode is set, then the answer is written: the one in the mailbox that the other leaves. -/
theorem exec_portConfig_of_some {mode : AttnMode} (hmode : attnModeParam (s.blockOf p) = some mode) :
    exec (.portConfig p) s = .next (s.setMailbox p
      (answeredMailbox ((s.mailbox p).withMode mode) (.ok (u8 (attnModeCode mode))))) := by
  have hbody : portConfigBody p (s.blockOf p) (takeCommand p s) =
      (s.setMailbox p { (s.mailbox p).withMode mode with state := .working }, .ok (u8 (attnModeCode mode))) := by
    simp only [portConfigBody, hmode, setAttnMode_eq, takeCommand, mailbox_setMailbox, setMailbox_setMailbox,
      Mailbox.withMode_setState]
  rw [exec_portConfig, runCommand_of_setMailbox h hbody]

end

/-- Settles O30: the answer is written into the mailbox that the mode set leaves, so a change has no pulse before it. -/
theorem portConfigSetsTheMode : Obligations.PortConfigSetsTheMode := by
  unfold Obligations.PortConfigSetsTheMode
  intro p s h
  refine ⟨fun hbad => ⟨_, exec_portConfig_of_none h (attnModeParam_eq_none hbad), onlyAnswered_setMailbox p _ s⟩,
    fun mode hmode => ⟨_, exec_portConfig_of_some h hmode, rfl, othersKept_setMailbox p _ s, ?_⟩⟩
  have hbox := mailbox_setMailbox s p
    (answeredMailbox ((s.mailbox p).withMode mode) (.ok (u8 (attnModeCode mode))))
  refine ⟨by simp, by simp, by simp, fun hne => ?_, fun heq => ?_, attnLine_of_answered_level hbox,
    attnLine_of_change_to_pulse hbox⟩
  · rw [hbox]
    exact pulses_of_mode_change _ hne
  · rw [AnsweredWith, hbox, Mailbox.withMode_of_eq heq]

end Sys2Proof.Machine
end

section
/-! PROOFS. What an operation keeps: one relation between a state and a later one for the invariants of the machine, and for
each kind of update of the state the conditions under which it keeps them. -/

namespace Sys2Proof.Machine

/-! ## The job slots -/

theorem slot_setSlot_same (s : State) (i : Slot) (e : JobSlot) : (s.setSlot i e).slot i = e := by
  simp [State.slot, State.setSlot]

theorem slot_setSlot_ne (s : State) {i k : Slot} (h : k ≠ i) (e : JobSlot) : (s.setSlot i e).slot k = s.slot k := by
  have hval : i.val ≠ k.val := fun heq => h (Fin.ext heq.symm)
  simp [State.slot, State.setSlot, hval]

theorem slot_restartWhere (covers : JobParams → Bool) (s : State) (i : Slot) :
    (restartWhere covers s).slot i = match (s.slot i).job with
      | some j => if covers j.params then { s.slot i with acc := {} } else s.slot i
      | none => s.slot i := by
  simp [State.slot, restartWhere] <;> rfl

/-- The jobs of the table as a set of slots. -/
theorem jobCount_eq_card (s : State) : s.jobCount = (Finset.univ.filter fun i => (s.slot i).job.isSome = true).card := by
  have hnodup : (allSlots.filter fun i => (s.slot i).job.isSome).Nodup := List.Nodup.filter _ (by decide)
  rw [State.jobCount, ← List.toFinset_card_of_nodup hnodup]
  congr 1
  ext i
  simp

theorem jobCount_congr {s t : State} (h : ∀ i, (t.slot i).job.isSome = (s.slot i).job.isSome) :
    t.jobCount = s.jobCount := by
  simp only [State.jobCount, h]

/-- A table with one job more counts one job more. -/
theorem jobCount_succ {s t : State} {i : Slot} (hfree : (s.slot i).job = none) (hjob : (t.slot i).job.isSome = true)
    (hrest : ∀ k, k ≠ i → (t.slot k).job.isSome = (s.slot k).job.isSome) : t.jobCount = s.jobCount + 1 := by
  have hset : (Finset.univ.filter fun k => (t.slot k).job.isSome = true) =
      insert i (Finset.univ.filter fun k => (s.slot k).job.isSome = true) := by
    ext k
    by_cases hk : k = i
    · simp [hk, hjob]
    · simp [hk, hrest k hk]
  rw [jobCount_eq_card, jobCount_eq_card, hset, Finset.card_insert_of_notMem (by simp [hfree])]

/-! ## The account in propositions -/

/-- The ledger of R29 with `n` reservations besides those of the jobs. -/
def State.Ledger (n : Nat) (s : State) : Prop :=
  s.results.reserved = s.jobCount + n ∧ s.results.reserved + s.results.records.length ≤ Config.resultSlots

/-- The account of `State.accountWf` clause by clause. -/
structure Account (s : State) : Prop where
  ledger : s.Ledger s.grantedPoints.length
  granted : ∀ g, s.cycle.granted = some g →
    s.grantedPoints.map Point.slot = [g.slot] ∧ (s.slot g.slot).job.isSome = true ∧ s.arb.head = .busy
  ungranted : s.cycle.granted = none → s.grantedPoints = []
  working : s.arb.head = .busy ∨ s.cycle.state = .idle
  capturing : s.cap.state = .idle ∨ s.cycle.state = .capturing
  measuring : s.meas.run = none ∨ s.cycle.state = .measuring
  testing : s.selftest.run = none ∨ s.arb.head = .selftest

theorem grantWf_iff (s : State) : s.grantWf = true ↔
    (∀ g, s.cycle.granted = some g →
      s.grantedPoints.map Point.slot = [g.slot] ∧ (s.slot g.slot).job.isSome = true ∧ s.arb.head = .busy) ∧
    (s.cycle.granted = none → s.grantedPoints = []) := by
  cases hg : s.cycle.granted <;> simp [State.grantWf, hg, and_assoc]

theorem accountWf_iff (s : State) : s.accountWf = true ↔ Account s := by
  have hwork : s.workWf = true ↔ (s.arb.head = .busy ∨ s.cycle.state = .idle) ∧
      (s.cap.state = .idle ∨ s.cycle.state = .capturing) ∧ (s.meas.run = none ∨ s.cycle.state = .measuring) ∧
      (s.selftest.run = none ∨ s.arb.head = .selftest) := by
    simp [State.workWf, and_assoc]
  have hledger : s.reservedWf = true ↔ s.Ledger s.grantedPoints.length := by
    simp [State.reservedWf, State.Ledger]
  simp only [State.accountWf, Bool.and_eq_true, hwork, hledger, grantWf_iff]
  constructor
  · rintro ⟨⟨hl, hg, hn⟩, hw, hc, hm, ht⟩
    exact ⟨hl, hg, hn, hw, hc, hm, ht⟩
  · rintro ⟨hl, hg, hn, hw, hc, hm, ht⟩
    exact ⟨⟨hl, hg, hn⟩, hw, hc, hm, ht⟩

namespace Account
variable {s : State} (h : Account s)
include h

theorem cap_idle (hc : s.cycle.state ≠ .capturing) : s.cap.state = .idle := h.capturing.resolve_right hc
theorem meas_none (hc : s.cycle.state ≠ .measuring) : s.meas.run = none := h.measuring.resolve_right hc
theorem busy (hc : s.cycle.state ≠ .idle) : s.arb.head = .busy := h.working.resolve_right hc
theorem test_none (hh : s.arb.head ≠ .selftest) : s.selftest.run = none := h.testing.resolve_right hh
theorem cycle_idle (hh : s.arb.head ≠ .busy) : s.cycle.state = .idle := h.working.resolve_left hh

theorem granted_none (hh : s.arb.head ≠ .busy) : s.cycle.granted = none := by
  cases hg : s.cycle.granted with
  | none => rfl
  | some g =>
    obtain ⟨-, -, hbusy⟩ := h.granted g hg
    exact absurd hbusy hh

end Account

/-! ## What is kept -/

/-- A later state keeps the queue and every invariant of the machine; the account is claimed under `W` alone, where a caller
puts what it knows of the state its own step began in. -/
structure Keeps (W : Prop) (s t : State) : Prop where
  pending : t.pending = s.pending
  rotation : s.rotationWf = true → t.rotationWf = true
  map : s.mapWf = true → t.mapWf = true
  verif : s.verifWf = true → t.verifWf = true
  burst : s.burstWf = true → t.burstWf = true
  windows : s.windowsWf = true → t.windowsWf = true
  wait : s.waitWf = true → t.waitWf = true
  halt : s.haltWf = true → t.haltWf = true
  interlock : s.interlock = true → t.interlock = true
  frames : s.framesWf = true → s.roiWf = true → t.framesWf = true
  roi : s.roiWf = true → t.roiWf = true
  account : W → Account s → Account t

namespace Keeps

theorem refl (W : Prop) (s : State) : Keeps W s s :=
  ⟨rfl, id, id, id, id, id, id, id, id, fun h _ => h, id, fun _ => id⟩

theorem trans {W : Prop} {s t u : State} (h : Keeps W s t) (k : Keeps W t u) : Keeps W s u where
  pending := k.pending.trans h.pending
  rotation := k.rotation ∘ h.rotation
  map := k.map ∘ h.map
  verif := k.verif ∘ h.verif
  burst := k.burst ∘ h.burst
  windows := k.windows ∘ h.windows
  wait := k.wait ∘ h.wait
  halt := k.halt ∘ h.halt
  interlock := k.interlock ∘ h.interlock
  frames := fun hf hr => k.frames (h.frames hf hr) (h.roi hr)
  roi := k.roi ∘ h.roi
  account := fun w => k.account w ∘ h.account w

theorem mono {W V : Prop} {s t : State} (h : Keeps W s t) (hw : V → W) : Keeps V s t :=
  { h with account := fun v => h.account (hw v) }

/-- What is kept under the account of the state it starts in is kept. -/
theorem assuming {W : Prop} {s t : State} (h : Keeps (W ∧ Account s) s t) : Keeps W s t :=
  { h with account := fun w a => h.account ⟨w, a⟩ a }

/-- The account may be shown on its own, past states in between that do not meet it. -/
theorem with_account {W : Prop} {s t : State} (h : Keeps False s t) (ha : W → Account s → Account t) : Keeps W s t :=
  { h with account := ha }

end Keeps

/-! ## Updates of one part of the state -/

section
variable {W : Prop} {s : State}

theorem keeps_setMailbox {p : Port} {m : Mailbox} (h : (s.mailbox p).sized = true → m.sized = true) :
    Keeps W s (s.setMailbox p m) where
  pending := rfl
  rotation := id
  map := id
  verif := id
  burst := id
  windows := by
    cases p <;> simp only [State.windowsWf, State.setMailbox, withPort, Bool.and_eq_true] <;> rintro ⟨⟨ha, hb⟩, hc⟩
    · exact ⟨⟨h ha, hb⟩, hc⟩
    · exact ⟨⟨ha, h hb⟩, hc⟩
    · exact ⟨⟨ha, hb⟩, h hc⟩
  wait := id
  halt := id
  interlock := id
  frames := fun hf _ => hf
  roi := id
  account := fun _ h => ⟨h.1, h.2, h.3, h.4, h.5, h.6, h.7⟩

/-- The parts that no invariant reads. -/
theorem keeps_free {x : PerPort (Option SpiTransfer)} {o : Word32} {u : StageUnit} {q : Acquisition} {p : Pins}
    {c : Calibration} {v : Settings} {n : Nat} :
    Keeps W s { s with
      spi := x, openOrder := o, stage := u, acq := q, pins := p, cal := c, settings := v, freeCount := n } :=
  ⟨rfl, id, id, id, id, id, id, id, id, fun h _ => h, id, fun _ h => ⟨h.1, h.2, h.3, h.4, h.5, h.6, h.7⟩⟩

/-- Turret and actuator (R69, R90). -/
theorem keeps_motion {t : Turret} {a : Actuator}
    (h : (s.turret.moving = true → s.act.state = .retracted) → t.moving = true → a.state = .retracted) :
    Keeps W s { s with turret := t, act := a } where
  pending := rfl
  rotation := id
  map := id
  verif := id
  burst := id
  windows := id
  wait := id
  halt := id
  interlock := by
    simp only [State.interlock, Bool.or_eq_true, Bool.not_eq_true', decide_eq_true_eq]
    intro hs
    cases hm : t.moving with
    | false => exact .inl rfl
    | true => exact .inr (h (fun hmoving => hs.resolve_left (by simp [hmoving])) hm)
  frames := fun hf _ => hf
  roi := id
  account := fun _ h => ⟨h.1, h.2, h.3, h.4, h.5, h.6, h.7⟩

theorem keeps_turret {t : Turret} (h : t.moving = true → s.turret.moving = true ∨ s.act.state = .retracted) :
    Keeps W s { s with turret := t } :=
  keeps_motion fun hs hm => (h hm).elim hs id

theorem keeps_act {a : Actuator}
    (h : a.state = .retracted ∨ a.state = s.act.state ∨ s.act.state ≠ .retracted ∨ s.turret.moving = false) :
    Keeps W s { s with act := a } :=
  keeps_motion fun hs hm => by
    rcases h with h | h | h | h
    · exact h
    · exact h.trans (hs hm)
    · exact absurd (hs hm) h
    · rw [h] at hm; cases hm

/-- The rotation list is the three ports in some order (R27). -/
theorem rotationWf_iff (s : State) : s.rotationWf = true ↔ s.arb.rotation.Perm allPorts := by
  simp only [State.rotationWf, Bool.and_eq_true, List.all_eq_true, List.contains_iff_mem, decide_eq_true_eq]
  constructor
  · rintro ⟨hlen, hall⟩
    exact (List.Subperm.perm_of_length_le (List.Nodup.subperm (by decide) hall) hlen.le).symm
  · exact fun h => ⟨h.length_eq, fun p hp => h.mem_iff.mpr hp⟩

theorem moveLast_perm {p : Port} (h : s.rotationWf = true) : (moveLast p s.arb.rotation).Perm s.arb.rotation := by
  have hperm := (rotationWf_iff s).mp h
  have hnodup : s.arb.rotation.Nodup := hperm.nodup_iff.mpr (by decide)
  have herase : s.arb.rotation.filter (· ≠ p) = s.arb.rotation.erase p := by
    rw [hnodup.erase_eq_filter]
    exact List.filter_congr fun q _ => by by_cases hq : q = p <;> simp [hq]
  rw [moveLast, herase]
  exact (List.perm_append_singleton _ _).trans (List.perm_cons_erase (hperm.mem_iff.mpr (mem_allPorts p))).symm

/-- The arbiter, each invariant on its own ground. -/
theorem keeps_arb {a : Arbiter} (hr : s.rotationWf = true → a.rotation.Perm s.arb.rotation)
    (hb : s.burstWf = true → ({ s with arb := a } : State).burstWf = true)
    (hw : s.waitWf = true → a.head = .idle ∨ a.wait = .none) (hh : s.haltWf = true → a.head = .halted → a.holder = none)
    (ha : W → Account s → Account { s with arb := a }) : Keeps W s { s with arb := a } where
  pending := rfl
  rotation := by
    intro h
    exact (rotationWf_iff _).mpr ((hr h).trans ((rotationWf_iff s).mp h))
  map := id
  verif := id
  burst := hb
  windows := id
  wait := fun h => by simpa [State.waitWf] using hw h
  halt := fun h => by
    have := hh h
    simp only [State.haltWf, Bool.or_eq_true, decide_eq_true_eq, Option.isNone_iff_eq_none]
    exact or_iff_not_imp_left.mpr fun hne => this (not_not.mp hne)
  interlock := id
  frames := fun hf _ => hf
  roi := id
  account := ha

/-- Faults and the latches. -/
theorem keeps_arb_notes {f l : Option FaultRecord} {tf d : Bool} :
    Keeps W s { s with arb := { s.arb with first := f, last := l, testFault := tf, due := d } } :=
  ⟨rfl, id, id, id, id, id, id, id, id, fun h _ => h, id, fun _ h => ⟨h.1, h.2, h.3, h.4, h.5, h.6, h.7⟩⟩

/-- The wait condition of an IDLE head (R24). -/
theorem keeps_wait {w : WaitCond} (h : s.arb.head = .idle) : Keeps W s { s with arb := { s.arb with wait := w } } :=
  ⟨rfl, id, id, id, id, id, fun _ => by simp [State.waitWf, h], id, id, fun h _ => h, id,
    fun _ h => ⟨h.1, h.2, h.3, h.4, h.5, h.6, h.7⟩⟩

/-- The end of a burst (R26). -/
theorem keeps_endBurst : Keeps W s { s with arb := { s.arb with holder := none, burst := 0 } } :=
  ⟨rfl, id, id, id, fun _ => by simp [State.burstWf], id, id, fun _ => by simp [State.haltWf], id, fun h _ => h, id,
    fun _ h => ⟨h.1, h.2, h.3, h.4, h.5, h.6, h.7⟩⟩


theorem keeps_rotation {p : Port} : Keeps W s { s with arb := { s.arb with rotation := moveLast p s.arb.rotation } } :=
  keeps_arb moveLast_perm id (fun h => by simpa [State.waitWf] using h)
    (fun h hh => by simpa [State.haltWf, show s.arb.head = .halted from hh] using h)
    fun _ h => ⟨h.1, h.2, h.3, h.4, h.5, h.6, h.7⟩

/-- A head state other than HALTED, with the wait condition, the test's fault and the decision latch (R20, R24). -/
theorem keeps_head {x : HeadState} {w : WaitCond} {tf d : Bool} (hx : x ≠ .halted)
    (hw : s.waitWf = true → x = .idle ∨ w = .none)
    (ha : W → Account s → s.cycle.state = .idle ∧ s.cycle.granted = none ∧ (s.selftest.run = none ∨ x = .selftest)) :
    Keeps W s { s with arb := { s.arb with head := x, wait := w, testFault := tf, due := d } } :=
  keeps_arb (fun _ => .refl _) id hw (fun _ h => absurd h hx) fun hW h => by
    obtain ⟨hidle, hgranted, htest⟩ := ha hW h
    exact ⟨h.1, (fun g hg => nomatch hgranted.symm.trans hg), h.3, .inr hidle, h.5, h.6, htest⟩

/-- The head HALTED with nothing running (R20, R26). -/
theorem keeps_halted
    (ha : W → Account s → s.cycle.state = .idle ∧ s.cycle.granted = none ∧ s.selftest.run = none) :
    Keeps W s { s with arb := { s.arb with head := .halted, wait := .none, holder := none, burst := 0 } } :=
  keeps_arb (fun _ => .refl _) (fun _ => by simp [State.burstWf]) (fun _ => .inr rfl) (fun _ _ => rfl) fun hW h => by
    obtain ⟨hidle, hgranted, htest⟩ := ha hW h
    exact ⟨h.1, (fun g hg => nomatch hgranted.symm.trans hg), h.3, .inr hidle, h.5, h.6, .inl htest⟩

theorem keeps_map {m : List MapEntry} (h : s.mapWf = true → m.length ≤ Config.mapEntries) : Keeps W s { s with map := m } :=
  ⟨rfl, id, fun hs => by simpa [State.mapWf] using h hs, id, id, id, id, id, id, fun h _ => h, id,
    fun _ h => ⟨h.1, h.2, h.3, h.4, h.5, h.6, h.7⟩⟩

theorem keeps_verif {v : VerifTable}
    (h : s.verifWf = true → v.entries.length ≤ Config.verifEntries ∧ distinctKeys v.entries = true) :
    Keeps W s { s with verif := v } :=
  ⟨rfl, id, id, fun hs => by simpa [State.verifWf] using h hs, id, id, id, id, id, fun h _ => h, id,
    fun _ h => ⟨h.1, h.2, h.3, h.4, h.5, h.6, h.7⟩⟩

/-- No job's half-size is above 480 (R2). -/
def State.jobRois (s : State) : Prop := ∀ i j, (s.slot i).job = some j → j.params.roi ≤ 480

theorem roiWf_iff (s : State) : s.roiWf = true ↔ s.jobRois ∧ ∀ r, s.cap.roi = some r → r.hEff ≤ 480 := by
  simp only [State.roiWf, Bool.and_eq_true, List.all_eq_true, mem_allSlots, true_implies, State.jobRois]
  refine and_congr (forall_congr' fun i => ?_) ?_
  · cases (s.slot i).job <;> simp
  · cases s.cap.roi <;> simp

/-- The job table, of jobs whose half-size is one of the table's before; under the account every slot keeps having a job or
none. -/
theorem keeps_jobs {js : Vector JobSlot 16} (hroi : s.jobRois → ({ s with jobs := js } : State).jobRois)
    (hsome : W → ∀ i : Slot, js[i].job.isSome = (s.slot i).job.isSome) : Keeps W s { s with jobs := js } where
  pending := rfl
  rotation := id
  map := id
  verif := id
  burst := id
  windows := id
  wait := id
  halt := id
  interlock := id
  frames := fun hf _ => hf
  roi := by
    rw [roiWf_iff, roiWf_iff]
    exact fun ⟨hjobs, hcap⟩ => ⟨hroi hjobs, hcap⟩
  account := fun hW ha => by
    have hcount : ({ s with jobs := js } : State).jobCount = s.jobCount := jobCount_congr (hsome hW)
    refine ⟨⟨ha.ledger.1.trans ?_, ha.ledger.2⟩, fun g hg => ?_, ha.3, ha.4, ha.5, ha.6, ha.7⟩
    · rw [hcount]; rfl
    · obtain ⟨hpoints, hjob, hbusy⟩ := ha.granted g hg
      exact ⟨hpoints, (hsome hW g.slot).trans hjob, hbusy⟩

/-- The job table with the same jobs in the same slots, but for what no invariant reads. -/
theorem keeps_jobs_of_map {js : Vector JobSlot 16}
    (h : ∀ i : Slot, js[i].job.map (fun j => j.params.roi) = (s.slot i).job.map fun j => j.params.roi) :
    Keeps W s { s with jobs := js } :=
  keeps_jobs (fun hjobs i j hj => by
      have hmap := h i
      rw [show js[i].job = some j from hj, Option.map_some] at hmap
      obtain ⟨k, hk, hroi⟩ := Option.map_eq_some_iff.mp hmap.symm
      exact hroi ▸ hjobs i k hk)
    fun _ i => by simpa using congrArg Option.isSome (h i)

theorem keeps_setSlot {i : Slot} {e : JobSlot}
    (h : e.job.map (fun j => j.params.roi) = (s.slot i).job.map fun j => j.params.roi) : Keeps W s (s.setSlot i e) :=
  keeps_jobs_of_map fun k => by
    by_cases hk : k = i
    · subst hk; exact (congrArg _ (congrArg _ (slot_setSlot_same s k e))).trans h
    · exact congrArg _ (congrArg _ (slot_setSlot_ne s hk e))

theorem keeps_updateJob {i : Slot} {f : Job → Job} (h : ∀ j, (f j).params.roi = j.params.roi) :
    Keeps W s (s.updateJob i f) := by
  unfold State.updateJob
  split
  next j hj => exact keeps_setSlot (by simp [hj, h])
  next => exact .refl W s

theorem keeps_restartWhere (covers : JobParams → Bool) : Keeps W s (restartWhere covers s) :=
  keeps_jobs_of_map fun i => by
    show Option.map _ ((restartWhere covers s).slot i).job = _
    rw [slot_restartWhere]
    split
    · split <;> rfl
    · rfl

/-- PENDING points come and go; the GRANTED ones stay. -/
theorem keeps_points {ps : List Point}
    (h : W → ps.filter (fun p => p.state = .granted) = s.points.filter fun p => p.state = .granted) :
    Keeps W s { s with points := ps } where
  pending := rfl
  rotation := id
  map := id
  verif := id
  burst := id
  windows := id
  wait := id
  halt := id
  interlock := id
  frames := fun hf _ => hf
  roi := id
  account := fun hW ha => by
    have hpoints : ({ s with points := ps } : State).grantedPoints = s.grantedPoints := h hW
    refine ⟨?_, fun g hg => ?_, fun hg => ?_, ha.4, ha.5, ha.6, ha.7⟩
    · rw [hpoints]; exact ha.ledger
    · rw [hpoints]; exact ha.granted g hg
    · rw [hpoints]; exact ha.ungranted hg

/-- Records move or leave, and the reservations stay (R158 to R160). -/
theorem keeps_results {r : ResultStore}
    (h : W → r.reserved = s.results.reserved ∧ r.records.length ≤ s.results.records.length) :
    Keeps W s { s with results := r } :=
  ⟨rfl, id, id, id, id, id, id, id, id, fun h _ => h, id, fun hW ha => by
    obtain ⟨hr, hlen⟩ := h hW
    exact ⟨⟨hr.trans ha.ledger.1, (Nat.add_le_add hr.le hlen).trans ha.ledger.2⟩, ha.2, ha.3, ha.4, ha.5, ha.6, ha.7⟩⟩

/-- The cycle controller, its granted point as before (R38). -/
theorem keeps_cycle {c : Cycle} (hg : W → c.granted = s.cycle.granted)
    (hw : c.state = s.cycle.state ∨ (W → Account s → s.arb.head = .busy ∧ (s.cap.state = .idle ∨ c.state = .capturing) ∧
      (s.meas.run = none ∨ c.state = .measuring))) : Keeps W s { s with cycle := c } :=
  ⟨rfl, id, id, id, id, id, id, id, id, fun h _ => h, id, fun hW h => by
    have hgranted : ∀ g, c.granted = some g →
        s.grantedPoints.map Point.slot = [g.slot] ∧ (s.slot g.slot).job.isSome = true ∧ s.arb.head = .busy :=
      fun g hgr => h.granted g (hg hW ▸ hgr)
    rcases hw with hst | hst
    · exact ⟨h.1, hgranted, fun hn => h.ungranted (hg hW ▸ hn), hst ▸ h.4, hst ▸ h.5, hst ▸ h.6, h.7⟩
    · obtain ⟨hbusy, hcap, hmeas⟩ := hst hW h
      exact ⟨h.1, hgranted, fun hn => h.ungranted (hg hW ▸ hn), .inl hbusy, hcap, hmeas, h.7⟩⟩

theorem keeps_onCycle {f : Cycle → Cycle} (hg : (f s.cycle).granted = s.cycle.granted)
    (hs : (f s.cycle).state = s.cycle.state) : Keeps W s (onCycle f s) :=
  keeps_cycle (fun _ => hg) (.inl hs)

/-- The capture engine (R102): its region within the buffer (R109), and at work in CAPTURING alone. -/
theorem keeps_cap {c : Capture} (hr : s.roiWf = true → ∀ r, c.roi = some r → r.hEff ≤ 480)
    (hw : c.state = .idle ∨ s.cap.state ≠ .idle ∨ (W → Account s → s.cycle.state = .capturing)) :
    Keeps W s { s with cap := c } :=
  ⟨rfl, id, id, id, id, id, id, id, id, fun h _ => h, fun h => (roiWf_iff _).mpr ⟨((roiWf_iff s).mp h).1, hr h⟩,
    fun hW h => by
      have hcap : c.state = .idle ∨ s.cycle.state = .capturing := by
        rcases hw with hi | hi | hi
        · exact .inl hi
        · exact .inr (h.capturing.resolve_left hi)
        · exact .inr (hi hW h)
      exact ⟨h.1, h.2, h.3, h.4, hcap, h.6, h.7⟩⟩

/-- A capture engine that keeps its region. -/
theorem keeps_cap_of_roi {c : Capture} (hr : c.roi = s.cap.roi ∨ c.roi = none)
    (hw : c.state = .idle ∨ s.cap.state ≠ .idle ∨ (W → Account s → s.cycle.state = .capturing)) :
    Keeps W s { s with cap := c } :=
  keeps_cap (fun h r hroi => by
    rcases hr with hr | hr
    · exact ((roiWf_iff s).mp h).2 r (hr ▸ hroi)
    · rw [hr] at hroi; cases hroi) hw

/-- The measurement engine (R119). -/
theorem keeps_meas {m : Meas} (h : m.run = none ∨ s.meas.run ≠ none ∨ (W → Account s → s.cycle.state = .measuring)) :
    Keeps W s { s with meas := m } :=
  ⟨rfl, id, id, id, id, id, id, id, id, fun h _ => h, id, fun hW ha => by
    have hmeas : m.run = none ∨ s.cycle.state = .measuring := by
      rcases h with hi | hi | hi
      · exact .inl hi
      · exact .inr (ha.measuring.resolve_left hi)
      · exact .inr (hi hW ha)
    exact ⟨ha.1, ha.2, ha.3, ha.4, ha.5, hmeas, ha.7⟩⟩

/-- The self-test unit (R182). -/
theorem keeps_selftest {u : SelfTest}
    (h : u.run = none ∨ s.selftest.run ≠ none ∨ (W → Account s → s.arb.head = .selftest)) :
    Keeps W s { s with selftest := u } :=
  ⟨rfl, id, id, id, id, id, id, id, id, fun h _ => h, id, fun hW ha => by
    have htest : u.run = none ∨ s.arb.head = .selftest := by
      rcases h with hi | hi | hi
      · exact .inl hi
      · exact .inr (ha.testing.resolve_left hi)
      · exact .inr (hi hW ha)
    exact ⟨ha.1, ha.2, ha.3, ha.4, ha.5, ha.6, htest⟩⟩

/-- The frame store (R103). -/
theorem keeps_frames {f : FrameStore} (h : s.framesWf = true → s.roiWf = true → f.mem.wf = true) :
    Keeps W s { s with frames := f } :=
  ⟨rfl, id, id, id, id, id, id, id, id, h, id, fun _ h => ⟨h.1, h.2, h.3, h.4, h.5, h.6, h.7⟩⟩

end

end Sys2Proof.Machine
end

section
/-! PROOFS. What the operations that end jobs and points change (R19, R59, R157): each is the state it begins in but for the
parts named. -/

namespace Sys2Proof.Machine

/-! ## Ports but for their pulses -/

/-- Every mailbox is as it was but for the pulses of its attention line. -/
def PulsedOnly (s t : State) : Prop :=
  ∀ q, { t.mailbox q with pulseActive := false, pulseScheduled := false } =
    { s.mailbox q with pulseActive := false, pulseScheduled := false }

namespace PulsedOnly

theorem refl (s : State) : PulsedOnly s s := fun _ => rfl

theorem of_ports {s t : State} (h : t.ports = s.ports) : PulsedOnly s t := fun q => by
  rw [State.mailbox, State.mailbox, h]

theorem trans {s t u : State} (h : PulsedOnly s t) (k : PulsedOnly t u) : PulsedOnly s u := fun q => (k q).trans (h q)

end PulsedOnly

theorem pulsed_eq (m : Mailbox) :
    pulsed m = { m with pulseActive := (pulsed m).pulseActive, pulseScheduled := (pulsed m).pulseScheduled } := by
  simp only [pulsed]
  split
  next => rfl
  next => split <;> [rfl; (split <;> rfl)]

theorem pulsedOnly_raiseTerm (p : Port) (s : State) : PulsedOnly s (raiseTerm p s) := fun q => by
  by_cases hq : q = p
  · subst hq; rw [raiseTerm_mailbox, pulsed_eq]
  · rw [raiseTerm_mailbox_ne s hq]

/-! ## Heads and faults -/

theorem haltHead_of_halted {s : State} (h : s.arb.head = .halted) : haltHead s = s := if_pos h

/-- R20, R24, R26, R196. -/
theorem haltHead_of_not_halted {s : State} (h : s.arb.head ≠ .halted) :
    haltHead s = { s with
      ports := ⟨pulsed s.ports.a, pulsed s.ports.b, pulsed s.ports.c⟩
      arb := { s.arb with head := .halted, wait := .none, holder := none, burst := 0 } } := if_neg h

theorem haltHead_frame (s : State) : haltHead s = { s with ports := (haltHead s).ports, arb := (haltHead s).arb } := by
  by_cases h : s.arb.head = .halted
  · rw [haltHead_of_halted h]
  · rw [haltHead_of_not_halted h]

theorem pulsedOnly_haltHead (s : State) : PulsedOnly s (haltHead s) := by
  by_cases h : s.arb.head = .halted
  · rw [haltHead_of_halted h]; exact .refl s
  · rw [haltHead_of_not_halted h]
    intro q
    cases q <;> exact congrArg (fun m : Mailbox => { m with pulseActive := false, pulseScheduled := false }) (pulsed_eq _)

theorem noteDecision_frame (s : State) :
    noteDecision s = { s with arb := { s.arb with due := (noteDecision s).arb.due } } := by
  unfold noteDecision; split <;> rfl

theorem releaseSlot_frame (s : State) : releaseSlot s = { s with
    arb := { s.arb with due := (releaseSlot s).arb.due }
    results := { s.results with reserved := s.results.reserved - 1 } } := noteDecision_frame _

/-! ## Records -/

theorem writeRecord_frame (r : Record) (s : State) :
    writeRecord r s = { s with ports := (writeRecord r s).ports, results := (writeRecord r s).results } := by
  simp only [writeRecord]; split <;> rfl

/-- R156, R157. -/
@[simp] theorem writeRecord_results (r : Record) (s : State) : (writeRecord r s).results = { s.results with
    reserved := s.results.reserved - 1, counter := s.newRecordId
    untaken := withPort s.results.untaken r.port
      (forPort s.results.untaken r.port ++ [{ r with id := s.newRecordId }]) } := by
  simp only [writeRecord]; split <;> rfl

theorem pulsedOnly_writeRecord (r : Record) (s : State) : PulsedOnly s (writeRecord r s) := by
  simp only [writeRecord]; split
  · exact (PulsedOnly.of_ports rfl).trans (pulsedOnly_raiseTerm r.port _)
  · exact .of_ports rfl

/-- A record for another port leaves a port's mailbox alone (R169). -/
theorem writeRecord_mailbox_ne (r : Record) (s : State) {q : Port} (h : q ≠ r.port) :
    (writeRecord r s).mailbox q = s.mailbox q := by
  simp only [writeRecord]; split
  · exact raiseTerm_mailbox_ne _ h
  · rfl

theorem records_length_write (r : Record) (s : State) :
    (writeRecord r s).results.records.length = s.results.records.length + 1 := by
  rw [writeRecord_results]
  cases r.port <;> simp [ResultStore.records, withPort, forPort] <;> omega

theorem countRecord_frame (p : JobParams) (s : State) : countRecord p s = { s with verif := (countRecord p s).verif } := by
  unfold countRecord; split <;> rfl

/-! ## Jobs -/

theorem updateJob_of_job {s : State} {i : Slot} {j : Job} (h : (s.slot i).job = some j) (f : Job → Job) :
    s.updateJob i f = s.setSlot i { s.slot i with job := some (f j) } := by
  simp only [State.updateJob, h, State.setJob]

theorem updateJob_frame (i : Slot) (f : Job → Job) (s : State) : s.updateJob i f = { s with jobs := (s.updateJob i f).jobs } := by
  unfold State.updateJob; split <;> rfl

theorem offsetCorrection_frame (i : Slot) (p : JobParams) (acc : Accum) (s : State) : offsetCorrection i p acc s = { s with
    jobs := (offsetCorrection i p acc s).jobs, cal := (offsetCorrection i p acc s).cal } := by
  simp only [offsetCorrection]
  split
  · split <;> rfl
  · rfl

theorem jobEndTables_frame (i : Slot) (j : Job) (acc : Accum) (reason : Reason) (s : State) :
    jobEndTables i j acc reason s = { s with
      jobs := (jobEndTables i j acc reason s).jobs, verif := (jobEndTables i j acc reason s).verif
      cal := (jobEndTables i j acc reason s).cal } := by
  simp only [jobEndTables]
  split
  · split
    next => rfl
    next => rw [offsetCorrection_frame]
    next => rfl
  · rfl

/-- R19, R26. -/
theorem freeJobSlot_eq (i : Slot) (s : State) :
    freeJobSlot i s = { s.setSlot i { s.slot i with gen := (s.slot i).gen + 1, job := none } with
      arb := if s.arb.holder = some (s.handle i) then { s.arb with holder := none, burst := 0 } else s.arb } := by
  simp only [freeJobSlot]; split <;> rfl

/-- What the end of a job may change. -/
theorem endJob_frame (i : Slot) (reason : Reason) (s : State) : endJob i reason s = { s with
    ports := (endJob i reason s).ports, jobs := (endJob i reason s).jobs, results := (endJob i reason s).results
    arb := { s.arb with holder := (endJob i reason s).arb.holder, burst := (endJob i reason s).arb.burst }
    verif := (endJob i reason s).verif, cal := (endJob i reason s).cal } := by
  unfold endJob
  split
  next j _ =>
    rw [freeJobSlot_eq, writeRecord_frame, jobEndTables_frame]
    split <;> rfl
  next => rfl

theorem finishTest_cases (i : Slot) (s : State) : finishTest i s = s ∨ (s.pointsOf i = [] ∧
    ∃ reason, finishTest i s = endJob i reason s) := by
  unfold finishTest
  split
  next j _ =>
    split
    next h =>
      simp only [Bool.and_eq_true, List.isEmpty_iff] at h
      exact .inr ⟨h.2, _, rfl⟩
    next => exact .inl rfl
  next => exact .inl rfl

theorem finishTest_frame (i : Slot) (s : State) : finishTest i s = { s with
    ports := (finishTest i s).ports, jobs := (finishTest i s).jobs, results := (finishTest i s).results
    arb := { s.arb with holder := (finishTest i s).arb.holder, burst := (finishTest i s).arb.burst }
    verif := (finishTest i s).verif, cal := (finishTest i s).cal } := by
  rcases finishTest_cases i s with h | ⟨-, reason, h⟩
  · rw [h]
  · rw [h]; exact endJob_frame i reason s

theorem skipPending_frame (i : Slot) (s : State) :
    skipPending i s = { s with jobs := (skipPending i s).jobs, points := (skipPending i s).points } := by
  simp only [skipPending]; rw [updateJob_frame]

@[simp] theorem skipPending_points (i : Slot) (s : State) :
    (skipPending i s).points = s.points.filter fun p => !(p.slot = i && p.state = .pending) := by
  simp only [skipPending]; rw [updateJob_frame]

end Sys2Proof.Machine
end

section
/-! PROOFS. The shared operations, the engines and the records keep the invariants. -/

namespace Sys2Proof.Machine

section
variable {W : Prop} {s : State}

/-! ## Mailboxes -/

theorem sized_pulsed {m : Mailbox} (h : m.sized = true) : (pulsed m).sized = true := by
  simpa [Mailbox.sized] using h

theorem raiseTerm_keeps (p : Port) : Keeps W s (raiseTerm p s) := keeps_setMailbox sized_pulsed

theorem answer_keeps (p : Port) (r : Reply) : Keeps W s (answer p r s) := by
  rw [answer_eq]
  refine keeps_setMailbox fun h => ?_
  split
  · exact sized_pulsed (by simp only [Mailbox.sized, responseBlock_length] at h ⊢; simp_all)
  · exact h

theorem takeCommand_keeps (p : Port) : Keeps W s (takeCommand p s) := keeps_setMailbox id

/-- A mailbox command keeps what its body keeps. -/
theorem runCommand_keeps {code : Word16} {p : Port} {body : List Byte → State → State × Reply}
    (h : ∀ blk u, Keeps W u (body blk u).1) : Keeps W s (runCommand code p body s) := by
  simp only [runCommand]
  split
  · exact ((takeCommand_keeps p).trans (h _ _)).trans (answer_keeps p _)
  · exact .refl W s

/-! ## Head states and faults -/

theorem noteDecision_keeps : Keeps W s (noteDecision s) := by
  rw [noteDecision_frame]; exact keeps_arb_notes

theorem clearDue_keeps : Keeps W s (clearDue s) := keeps_arb_notes

theorem idleHead_keeps
    (h : W → Account s → s.cycle.state = .idle ∧ s.cycle.granted = none ∧ s.selftest.run = none) :
    Keeps W s (idleHead s) :=
  keeps_head (by decide) (fun _ => .inl rfl) fun hW ha => by
    obtain ⟨hidle, hgranted, htest⟩ := h hW ha
    exact ⟨hidle, hgranted, .inl htest⟩

theorem haltHead_keeps
    (h : W → Account s → s.cycle.state = .idle ∧ s.cycle.granted = none ∧ s.selftest.run = none) :
    Keeps W s (haltHead s) := by
  unfold haltHead
  split
  · exact .refl W s
  · exact (((keeps_halted h).trans (raiseTerm_keeps .pa)).trans (raiseTerm_keeps .pb)).trans (raiseTerm_keeps .pc)

/-- What the account says with the head neither BUSY nor SELFTEST: nothing runs. -/
theorem Account.nothing_runs (h : Account s) (hb : s.arb.head ≠ .busy) (ht : s.arb.head ≠ .selftest) :
    s.cycle.state = .idle ∧ s.cycle.granted = none ∧ s.selftest.run = none :=
  ⟨h.cycle_idle hb, h.granted_none hb, h.test_none ht⟩

theorem storeFault_keeps (f : FaultRecord) : Keeps W s (storeFault f s) := keeps_arb_notes

theorem recordFault_keeps (code : FaultCode) (sub : Option SubReason) : Keeps W s (recordFault code sub s) := by
  simp only [recordFault]
  split
  · exact storeFault_keeps _
  · split
    next hh => exact (storeFault_keeps _).trans (haltHead_keeps fun _ h => h.nothing_runs (by simp [hh]) (by simp [hh]))
    next hh => exact (storeFault_keeps _).trans (keeps_onCycle (f := fun c => { c with haltOnEnd := true }) rfl rfl)
    next hh => exact (storeFault_keeps _).trans keeps_arb_notes
    next hh => exact (storeFault_keeps _).trans (haltHead_keeps fun _ h => h.nothing_runs (by simp [hh]) (by simp [hh]))
    next hh => exact (storeFault_keeps _).trans (haltHead_keeps fun _ h => h.nothing_runs (by simp [hh]) (by simp [hh]))
    next => exact storeFault_keeps _

/-! ## The capture engine -/

theorem startExposure_keeps (e : Exposure) (h : s.cap.state ≠ .idle ∨ (W → Account s → s.cycle.state = .capturing)) :
    Keeps W s (startExposure e s) :=
  keeps_cap_of_roi (.inl rfl) (.inr h)

theorem startFirst_keeps (h : s.cap.state ≠ .idle ∨ (W → Account s → s.cycle.state = .capturing)) :
    Keeps W s (startFirst s) := by
  unfold startFirst
  split
  · exact startExposure_keeps _ h
  · exact .refl W s

theorem captureIdle_keeps : Keeps W s (captureIdle s) := keeps_cap_of_roi (.inr rfl) (.inl rfl)

theorem noteFailure_keeps (k : FailKind) : Keeps W s (noteFailure k s) :=
  keeps_cap_of_roi (.inl rfl) (or_iff_not_imp_left.mpr fun h => .inl h)

theorem clearTail_keeps : Keeps W s (clearTail s) :=
  keeps_cap_of_roi (.inl rfl) (or_iff_not_imp_left.mpr fun h => .inl h)

theorem effectiveHalf_le (h cx cy : Nat) : effectiveHalf h cx cy ≤ h := min_le_left _ _

theorem requestCapture_keeps {n : Station} {h : Nat} {l : Illum} (hh : s.roiWf = true → h ≤ 480)
    (hc : W → Account s → s.cycle.state = .capturing) : Keeps W s (requestCapture n h l s).1 := by
  simp only [requestCapture]
  split
  · dsimp only; exact recordFault_keeps _ _
  next hidle =>
    have hidle : s.cap.state = .idle := not_not.mp hidle
    have hroi : ∀ c : Capture, s.roiWf = true → ∀ r,
        ({ c with roi := some (roiFor h (captureRequestOf n h l s).cx (captureRequestOf n h l s).cy) } : Capture).roi
          = some r → r.hEff ≤ 480 := fun c hs r hr => by
      obtain rfl := Option.some.inj hr
      exact (effectiveHalf_le _ _ _).trans (hh hs)
    split
    · exact keeps_cap_of_roi (.inl rfl) (.inl hidle)
    · split
      · exact keeps_cap (fun hs r hr => hroi {} hs r hr) (.inr (.inr hc))
      · refine Keeps.trans (t := { s with cap := { s.cap with
            exposureCount := 0, retryCount := 0, request := some (captureRequestOf n h l s)
            roi := some (roiFor h (captureRequestOf n h l s).cx (captureRequestOf n h l s).cy) } })
          (keeps_cap (fun hs r hr => hroi {} hs r hr) (.inl hidle)) ?_
        exact startFirst_keeps (.inr fun hW ha => hc hW ⟨ha.1, ha.2, ha.3, ha.4, .inl hidle, ha.6, ha.7⟩)

theorem actOnFailure_keeps (k : FailKind) (h : s.cap.state ≠ .idle) : Keeps W s (actOnFailure k s).1 := by
  simp only [actOnFailure]
  split
  · exact Keeps.trans (t := { s with cap := { s.cap with retryCount := 1 } })
      (keeps_cap_of_roi (.inl rfl) (.inr (.inl h))) (startFirst_keeps (.inl h))
  · dsimp only
    split
    · exact captureIdle_keeps.trans (recordFault_keeps _ _)
    · exact captureIdle_keeps

theorem corrupt_keeps (k : FailKind) (h : s.cap.state ≠ .idle) : Keeps W s (corrupt k s) :=
  (noteFailure_keeps k).trans (keeps_cap_of_roi (.inl rfl) (.inr (.inl h)))

theorem takePixel_keeps (v : Nat) : Keeps W s (takePixel v s) := by
  simp only [takePixel]
  split
  next hs _ =>
    have hrun : s.cap.state ≠ .idle := by simp [hs]
    split
    · exact corrupt_keeps _ hrun
    · split
      · exact corrupt_keeps _ hrun
      · exact keeps_cap_of_roi (.inl rfl) (.inr (.inl hrun))
  next => exact .refl W s

theorem storedRow_length_le (r : CapRequest) (roi : Roi) (e : Option Exposure) (line : List Nat) (old : List Byte) :
    (storedRow r roi e line old).length ≤ 2 * roi.hEff := by
  simp only [storedRow]
  split
  · simp only [List.length_zipWith, List.length_map, List.length_take]; omega
  · simp only [List.length_map, List.length_take]; omega

/-- A ROI of at most 480 lies inside its buffer (R103, R109). -/
theorem storeLine_keeps {r : CapRequest} {roi : Roi} (h : s.cap.roi = some roi) : Keeps W s (storeLine r roi s) := by
  simp only [storeLine]
  split
  next hin =>
    refine keeps_frames fun hf hr => Memory.wf_write hf ?_
    have hroi : roi.hEff ≤ 480 := ((roiWf_iff s).mp hr).2 roi h
    have hrow := storedRow_length_le r roi s.cap.exposure s.cap.line
      (Memory.slice s.frames.mem (frameAddr s.frames.work.val (s.cap.lineCount - roi.row0) 0) (2 * roi.hEff))
    have hwork := s.frames.work.isLt
    simp only [frameAddr, Config.bufferBytes, Config.frameSide] at hrow ⊢
    omega
  next => exact .refl W s

theorem takeLineSum_keeps (w : Word16) : Keeps W s (takeLineSum w s) := by
  simp only [takeLineSum]
  split
  next r roi hs _ hroi =>
    have hrun : s.cap.state ≠ .idle := by simp [hs]
    split
    · exact corrupt_keeps _ hrun
    · split
      · exact corrupt_keeps _ hrun
      · have hcap : (storeLine r roi s).cap = s.cap := by simp only [storeLine]; split <;> rfl
        exact (storeLine_keeps hroi).trans (keeps_cap_of_roi (.inl rfl) (.inr (.inl (by rw [hcap]; exact hrun))))
  next => exact .refl W s

theorem completeCapture_keeps (roi : Roi) : Keeps W s (completeCapture roi s).1 :=
  Keeps.trans (t := { s with frames := { s.frames with
      work := s.frames.last, lastId := some (s.cap.imageCounter + 1), lastHEff := some roi.hEff } })
    (keeps_frames fun hf _ => hf) (keeps_cap_of_roi (.inr rfl) (.inl rfl))

theorem endFrame_keeps (roi : Roi) (h : s.cap.state ≠ .idle) : Keeps W s (endFrame roi s).1 := by
  simp only [endFrame]
  split
  · exact (noteFailure_keeps _).trans (actOnFailure_keeps _ h)
  · split
    · exact startExposure_keeps _ (.inl h)
    · exact completeCapture_keeps roi

theorem discardEnd_keeps (h : s.cap.state ≠ .idle) : Keeps W s (discardEnd s).1 := by
  simp only [discardEnd]
  split
  · exact actOnFailure_keeps _ h
  · exact .refl W s

theorem takeMarker_keeps : Keeps W s (takeMarker s).1 := by
  simp only [takeMarker]
  split
  next hs =>
    split
    · exact endFrame_keeps _ (by simp [hs])
    · exact .refl W s
  next hs => exact discardEnd_keeps (by simp [hs])
  next hs => exact clearTail_keeps.trans (startFirst_keeps (.inl (by simp [clearTail, hs])))
  next => exact clearTail_keeps
  next => exact clearTail_keeps

theorem takeFrameTimeout_keeps : Keeps W s (takeFrameTimeout s).1 := by
  simp only [takeFrameTimeout]
  split
  · split
    next hs => exact (noteFailure_keeps _).trans (actOnFailure_keeps _ (by simp [noteFailure, hs]))
    next hs => exact discardEnd_keeps (by simp [hs])
    next => exact .refl W s
  · exact .refl W s

theorem takeExposureEnd_keeps : Keeps W s (takeExposureEnd s) := by
  unfold takeExposureEnd
  split
  next hs => exact keeps_cap_of_roi (.inl rfl) (.inr (.inl (by simp [hs])))
  next => exact .refl W s

theorem takeTailWait_keeps : Keeps W s (takeTailWait s) := by
  unfold takeTailWait
  split
  next hs => exact clearTail_keeps.trans (startFirst_keeps (.inl (by simp [clearTail, hs])))
  next => exact .refl W s

theorem abandonCapture_keeps : Keeps W s (abandonCapture s) := by
  unfold abandonCapture
  split
  · exact .refl W s
  · exact captureIdle_keeps
  · exact keeps_cap_of_roi (.inr rfl) (.inl rfl)

@[simp] theorem abandonCapture_idle : (abandonCapture s).cap.state = .idle := by
  unfold abandonCapture
  split
  next h => exact h
  next => rfl
  next => rfl

theorem abandonCapture_frame (s : State) : abandonCapture s = { s with cap := (abandonCapture s).cap } := by
  unfold abandonCapture; split <;> rfl

/-! ## The measurement engine -/

theorem measIdle_keeps (sum : Summary) : Keeps W s (measIdle sum s) := keeps_meas (.inl rfl)

theorem abandonMeasure_keeps : Keeps W s (abandonMeasure s) := by
  unfold abandonMeasure
  split
  · exact measIdle_keeps _
  · exact .refl W s

@[simp] theorem abandonMeasure_run : (abandonMeasure s).meas.run = none := by
  unfold abandonMeasure
  split
  next => rfl
  next h => exact h

theorem abandonMeasure_frame (s : State) : abandonMeasure s = { s with meas := (abandonMeasure s).meas } := by
  unfold abandonMeasure; split <;> rfl

theorem requestMeasure_keeps (r : MeasRequest) (h : W → Account s → s.cycle.state = .measuring) :
    Keeps W s (requestMeasure r s).1 := by
  refine Keeps.assuming ?_
  simp only [requestMeasure]
  have hcycle : (abandonMeasure s).cycle = s.cycle := by rw [abandonMeasure_frame]
  split
  · exact abandonMeasure_keeps.trans (keeps_meas (.inr (.inr fun hW _ => by rw [hcycle]; exact h hW.1 hW.2)))
  · exact abandonMeasure_keeps.trans (measIdle_keeps _)

theorem takeMeasurementEnd_keeps : Keeps W s (takeMeasurementEnd s).1 := by
  simp only [takeMeasurementEnd]
  split
  · exact .refl W s
  · split <;> exact measIdle_keeps _

theorem advanceMeasure_keeps : Keeps W s (advanceMeasure s) := by
  simp only [advanceMeasure]
  split
  · exact .refl W s
  next hr =>
    split
    · split
      · exact keeps_meas (.inr (.inl (by simp [hr])))
      · exact .refl W s
    · exact .refl W s

/-! ## The stage order unit -/

theorem publishOrder_keeps (k : OrderKind) (x y : Int) : Keeps W s (publishOrder k x y s) :=
  Keeps.trans (t := { s with stage := (publishOrder k x y s).stage }) keeps_free (raiseTerm_keeps _)

theorem endOrder_frame (st : OrderStatus) (s : State) : endOrder st s = { s with stage := (endOrder st s).stage } := by
  unfold endOrder; split <;> rfl

theorem endOrder_keeps (st : OrderStatus) : Keeps W s (endOrder st s) := by
  rw [endOrder_frame]; exact keeps_free

theorem dropWork_frame (s : State) : dropWork s = { s with
    stage := (dropWork s).stage, cap := (dropWork s).cap, meas := (dropWork s).meas } := by
  simp only [dropWork, withdrawOrder]
  rw [endOrder_frame, abandonMeasure_frame, abandonCapture_frame]

theorem dropWork_keeps : Keeps W s (dropWork s) :=
  (abandonCapture_keeps.trans abandonMeasure_keeps).trans (endOrder_keeps _)

theorem dropWork_cap_idle : (dropWork s).cap.state = .idle := by
  simp only [dropWork, withdrawOrder]
  rw [endOrder_frame, abandonMeasure_frame]
  exact abandonCapture_idle

theorem dropWork_meas_none : (dropWork s).meas.run = none := by
  simp only [dropWork, withdrawOrder]
  rw [endOrder_frame]
  exact abandonMeasure_run

/-! ## The indent map and the verification table -/

theorem addMapEntry_keeps (e : MapEntry) : Keeps W s (addMapEntry e s) :=
  keeps_map fun h => by
    simp only [State.mapWf, decide_eq_true_eq] at h
    rw [List.length_append, List.length_singleton]
    split
    next => omega
    next => rw [List.length_drop]; simp only [Config.mapEntries] at *; omega

/-- R177: the keys of a table. -/
def VerifEntry.key (e : VerifEntry) : Station × Nat := (e.station, e.force)

theorem distinctKeys_iff (es : List VerifEntry) : distinctKeys es = true ↔ (es.map VerifEntry.key).Nodup := by
  induction es with
  | nil => simp [distinctKeys]
  | cons e es ih =>
    simp only [distinctKeys, Bool.and_eq_true, ih, List.map_cons, List.nodup_cons]
    refine and_congr ?_ Iff.rfl
    simp only [List.all_eq_true, Bool.not_eq_true', Bool.and_eq_false_iff, decide_eq_false_iff_not, List.mem_map,
      VerifEntry.key, Prod.mk.injEq, not_exists, not_and]
    exact forall₂_congr fun f _ => by tauto

theorem verifWf_iff (s : State) : s.verifWf = true ↔
    s.verif.entries.length ≤ Config.verifEntries ∧ (s.verif.entries.map VerifEntry.key).Nodup := by
  simp [State.verifWf, distinctKeys_iff]

/-- Entries changed with their keys kept. -/
theorem keeps_verif_map {c : Word32} {f : VerifEntry → VerifEntry} (h : ∀ e, (f e).key = e.key) :
    Keeps W s { s with verif := { counter := c, entries := s.verif.entries.map f } } :=
  keeps_verif fun hs => by
    obtain ⟨hlen, hkeys⟩ := (verifWf_iff s).mp hs
    refine ⟨by simpa using hlen, (distinctKeys_iff _).mpr ?_⟩
    rwa [List.map_map, show VerifEntry.key ∘ f = VerifEntry.key from funext h]

theorem lapseWhere_keeps (covers : VerifEntry → Bool) : Keeps W s (lapseWhere covers s) :=
  keeps_verif_map fun e => by split <;> rfl

theorem countRecord_keeps (p : JobParams) : Keeps W s (countRecord p s) := by
  unfold countRecord
  split
  · refine keeps_verif_map fun e => ?_
    split
    · simp only [VerifEntry.count]; split <;> rfl
    · rfl
  · exact .refl W s

/-- An entry put over those of a key that are its own, or its replacement. -/
theorem nodup_replace {es : List VerifEntry} {e : VerifEntry} {k : Station × Nat} (h : (es.map VerifEntry.key).Nodup)
    (he : e.key = k ∨ ∀ f ∈ es, f.key ≠ e.key) :
    ((es.map fun f => if f.key = k then e else f).map VerifEntry.key).Nodup := by
  induction es with
  | nil => simp
  | cons f fs ih =>
    simp only [List.map_cons, List.nodup_cons, List.mem_map, not_exists, not_and] at h ⊢
    obtain ⟨hf, hfs⟩ := h
    have hrest := ih hfs (he.imp_right fun hne g hg => hne g (List.mem_cons_of_mem f hg))
    refine ⟨?_, hrest⟩
    rintro x ⟨g, hg, rfl⟩
    have hgf : g.key ≠ f.key := hf g hg
    by_cases hfk : f.key = k <;> by_cases hgk : g.key = k
    · exact absurd (hgk.trans hfk.symm) hgf
    · rw [if_neg hgk, if_pos hfk]
      rcases he with he | he
      · exact fun heq => hgk (heq.trans he)
      · exact he g (List.mem_cons_of_mem f hg)
    · rw [if_pos hgk, if_neg hfk]
      rcases he with he | he
      · exact fun heq => hfk (heq.symm.trans he)
      · exact fun heq => he f List.mem_cons_self heq.symm
    · rw [if_neg hgk, if_neg hfk]; exact hgf

theorem putVerifEntry_eq (e : VerifEntry) (es : List VerifEntry) : putVerifEntry e es =
    if (∃ f ∈ es, f.key = e.key) then es.map fun f => if f.key = e.key then e else f
    else if es.length < Config.verifEntries then es ++ [e]
    else match victim es with
      | some v => es.map fun f => if f.key = v.key then e else f
      | none => es := by
  simp only [putVerifEntry, VerifEntry.key, Prod.mk.injEq, List.any_eq_true, Bool.and_eq_true, decide_eq_true_eq] <;> rfl

theorem verifUpdate_keeps (p : JobParams) (acc : Accum) : Keeps W s (verifyUpdate p acc s) :=
  keeps_verif fun hs => by
    obtain ⟨hlen, hkeys⟩ := (verifWf_iff s).mp hs
    rw [distinctKeys_iff]
    generalize hnew : ({ station := p.indenter, force := p.force, verified := _, mean := _, since := 0, seq := _ } :
      VerifEntry) = e
    rw [putVerifEntry_eq]
    split
    · exact ⟨by simpa using hlen, nodup_replace hkeys (.inl rfl)⟩
    next hnone =>
      have hne : ∀ f ∈ s.verif.entries, f.key ≠ e.key := fun f hf heq => hnone ⟨f, hf, heq⟩
      split
      next hroom =>
        refine ⟨by simp; omega, ?_⟩
        rw [List.map_append, List.nodup_append]
        refine ⟨hkeys, by simp, ?_⟩
        simp only [List.mem_map, List.map_cons, List.map_nil, List.mem_singleton]
        rintro _ ⟨f, hf, rfl⟩ _ rfl
        exact hne f hf
      next =>
        split
        · exact ⟨by simpa using hlen, nodup_replace hkeys (.inr hne)⟩
        · exact ⟨hlen, hkeys⟩

/-! ## The end of jobs -/

theorem offsetCorrection_keeps (i : Slot) (p : JobParams) (acc : Accum) : Keeps W s (offsetCorrection i p acc s) := by
  simp only [offsetCorrection]
  split
  · split
    · exact (Keeps.trans (t := s.setStation p.objective _) keeps_free (keeps_restartWhere _)).trans (keeps_setSlot rfl)
    · exact .refl W s
  · exact .refl W s

theorem jobEndTables_keeps (i : Slot) (j : Job) (acc : Accum) (reason : Reason) :
    Keeps W s (jobEndTables i j acc reason s) := by
  simp only [jobEndTables]
  split
  · split
    · exact verifUpdate_keeps _ _
    · exact offsetCorrection_keeps _ _ _
    · exact .refl W s
  · exact .refl W s

/-- The job of a slot and its record alone break the ledger; together they keep it. -/
theorem writeRecord_keeps_but_account (r : Record) : Keeps False s (writeRecord r s) := by
  simp only [writeRecord]
  split
  · exact (keeps_results False.elim).trans (raiseTerm_keeps _)
  · exact keeps_results False.elim

theorem freeJobSlot_keeps_but_account (i : Slot) : Keeps False s (freeJobSlot i s) := by
  have hslot : Keeps False s (s.setSlot i { s.slot i with gen := (s.slot i).gen + 1, job := none }) :=
    keeps_jobs (fun h k j hj => by
      by_cases hk : k = i
      · subst hk
        have : ((s.setSlot k { s.slot k with gen := (s.slot k).gen + 1, job := none }).slot k).job = some j := hj
        rw [slot_setSlot_same] at this
        cases this
      · have : ((s.setSlot i { s.slot i with gen := (s.slot i).gen + 1, job := none }).slot k).job = some j := hj
        rw [slot_setSlot_ne s hk] at this
        exact h k j this) False.elim
  simp only [freeJobSlot]
  split
  · exact hslot.trans keeps_endBurst
  · exact hslot

theorem endJob_keeps_but_account (i : Slot) (reason : Reason) : Keeps False s (endJob i reason s) := by
  unfold endJob
  split
  · exact ((jobEndTables_keeps _ _ _ _).trans (writeRecord_keeps_but_account _)).trans (freeJobSlot_keeps_but_account _)
  · exact .refl _ s

theorem finishTest_keeps_but_account (i : Slot) : Keeps False s (finishTest i s) := by
  rcases finishTest_cases i s with h | ⟨-, reason, h⟩
  · rw [h]; exact .refl _ s
  · rw [h]; exact endJob_keeps_but_account i reason

theorem isSome_job_jobEndTables (i : Slot) (j : Job) (acc : Accum) (reason : Reason) (s : State) (k : Slot) :
    ((jobEndTables i j acc reason s).slot k).job.isSome = (s.slot k).job.isSome := by
  have hrestart : ∀ (c : JobParams → Bool) (u : State), ((restartWhere c u).slot k).job.isSome = (u.slot k).job.isSome :=
    fun c u => by rw [slot_restartWhere]; split <;> [(split <;> rfl); rfl]
  simp only [jobEndTables]
  split
  · split
    · rfl
    · simp only [offsetCorrection]
      split
      · split
        · by_cases hk : k = i
          · subst hk; rw [slot_setSlot_same]; exact hrestart _ _
          · rw [slot_setSlot_ne _ hk]; exact hrestart _ _
        · rfl
      · rfl
    · rfl
  · rfl

theorem slot_freeJobSlot_same (i : Slot) (s : State) :
    (freeJobSlot i s).slot i = { s.slot i with gen := (s.slot i).gen + 1, job := none } := by
  rw [freeJobSlot_eq]; exact slot_setSlot_same s i _

theorem slot_freeJobSlot_ne {i k : Slot} (h : k ≠ i) (s : State) : (freeJobSlot i s).slot k = s.slot k := by
  rw [freeJobSlot_eq]; exact slot_setSlot_ne s h _

theorem slot_writeRecord (r : Record) (s : State) (k : Slot) : (writeRecord r s).slot k = s.slot k := by
  rw [writeRecord_frame]; rfl

/-- Which slots have a job after a job has ended. -/
theorem isSome_job_endJob {i : Slot} {reason : Reason} {k : Slot} :
    ((endJob i reason s).slot k).job.isSome = (decide (k ≠ i) && (s.slot k).job.isSome) := by
  unfold endJob
  split
  next j hj =>
    by_cases hk : k = i
    · subst hk; rw [slot_freeJobSlot_same]; simp
    · rw [slot_freeJobSlot_ne hk, slot_writeRecord, isSome_job_jobEndTables]; simp [hk]
  next hnone =>
    by_cases hk : k = i
    · subst hk; simp [hnone]
    · simp [hk]

/-- The record of a job takes the job's reservation: the ledger stays (R19, R29). -/
theorem ledger_endJob {n : Nat} (h : s.Ledger n) (i : Slot) (reason : Reason) : (endJob i reason s).Ledger n := by
  cases hj : (s.slot i).job with
  | none => rwa [show endJob i reason s = s by simp only [endJob, hj]]
  | some j =>
    have hcount : s.jobCount = (endJob i reason s).jobCount + 1 := by
      refine jobCount_succ (i := i) ?_ (by simp [hj]) fun k hk => ?_
      · have := isSome_job_endJob (s := s) (i := i) (reason := reason) (k := i)
        simpa using this
      · rw [isSome_job_endJob]; simp [hk]
    have htables : (jobEndTables i j (s.slot i).acc reason s).results = s.results := by rw [jobEndTables_frame]
    have hresults : (endJob i reason s).results =
        (writeRecord (jobEndRecord s i j reason) (jobEndTables i j (s.slot i).acc reason s)).results := by
      simp only [endJob, hj, freeJobSlot_eq]; rfl
    have hlength : (endJob i reason s).results.records.length = s.results.records.length + 1 := by
      rw [hresults, records_length_write, htables]
    have hreserved : (endJob i reason s).results.reserved = s.results.reserved - 1 := by
      rw [hresults, writeRecord_results, htables]
    obtain ⟨hres, hroom⟩ := h
    exact ⟨by omega, by omega⟩

theorem ledger_finishTest {n : Nat} (h : s.Ledger n) (i : Slot) : (finishTest i s).Ledger n := by
  rcases finishTest_cases i s with hf | ⟨-, reason, hf⟩
  · rwa [hf]
  · rw [hf]; exact ledger_endJob h i reason

/-- A job without a GRANTED point ends within the account. -/
theorem endJob_keeps {i : Slot} (reason : Reason) (h : W → Account s → ∀ p ∈ s.grantedPoints, p.slot ≠ i) :
    Keeps W s (endJob i reason s) :=
  (endJob_keeps_but_account i reason).with_account fun hW ha => by
    have hfree := h hW ha
    have hledger := ledger_endJob ha.ledger i reason
    have hframe := endJob_frame i reason s
    have hpoints : (endJob i reason s).grantedPoints = s.grantedPoints := by rw [hframe]; rfl
    refine ⟨by rw [hpoints]; exact hledger, fun g hg => ?_, fun hg => ?_, ?_, ?_, ?_, ?_⟩
    · rw [hframe] at hg
      obtain ⟨hslots, hjob, hbusy⟩ := ha.granted g hg
      have hne : g.slot ≠ i := by
        obtain ⟨p, hp, hslot⟩ := List.mem_map.mp (hslots ▸ List.mem_singleton_self g.slot)
        exact hslot ▸ hfree p hp
      refine ⟨hpoints ▸ hslots, ?_, ?_⟩
      · rw [isSome_job_endJob]; simp [hne, hjob]
      · rw [hframe]; exact hbusy
    · rw [hframe] at hg; rw [hpoints]; exact ha.ungranted hg
    · rw [hframe]; exact ha.working
    · rw [hframe]; exact ha.capturing
    · rw [hframe]; exact ha.measuring
    · rw [hframe]; exact ha.testing

theorem finishTest_keeps (i : Slot) : Keeps W s (finishTest i s) := by
  rcases finishTest_cases i s with h | ⟨hnone, reason, h⟩
  · rw [h]; exact .refl W s
  · rw [h]
    refine endJob_keeps reason fun _ _ p hp hslot => ?_
    have hmem : p ∈ s.pointsOf i := List.mem_filter.mpr ⟨(List.mem_filter.mp hp).1, by simp [hslot]⟩
    rw [hnone] at hmem
    cases hmem

theorem filter_granted_pending (i : Slot) (ps : List Point) :
    (ps.filter fun p => !(p.slot = i && p.state = .pending)).filter (fun p => p.state = .granted) =
      ps.filter fun p => p.state = .granted := by
  rw [List.filter_filter]
  refine List.filter_congr fun p _ => ?_
  cases p.state <;> simp

theorem skipPending_keeps (i : Slot) : Keeps W s (skipPending i s) :=
  Keeps.trans (t := { s with points := s.points.filter fun p => !(p.slot = i && p.state = .pending) })
    (keeps_points fun _ => filter_granted_pending i s.points) (keeps_updateJob fun _ => rfl)

end

end Sys2Proof.Machine
end

section
/-! PROOFS. The end of a point and the clearing path (R56 to R59): what they change, and that they keep the invariants. -/

namespace Sys2Proof.Machine

/-! ## What the end of a point may change -/

/-- The state in which a point's record stands and its job has taken it, before the finish test. -/
def pointRecorded (g : Granted) (j : Job) (st : Status) (body : PointBody) (off : Int × Int) (s : State) : State :=
  let s1 := dropGranted g.slot (countRecord j.params (writeRecord
    { id := 0, port := j.owner, handle := g.handle, kind := j.params.kind, specimen := j.params.specimen, status := st
      body := .point body } s))
  let s2 := s1.updateJob g.slot (countStatus st)
  s2.setSlot g.slot { s2.slot g.slot with
    acc := accumulate j.params.kind st ((body.hardness.getD 0 : Nat) : Int) off (s2.slot g.slot).acc }

theorem endPoint_eq (g : Granted) (j : Job) (st : Status) (body : PointBody) (off : Int × Int) (s : State) :
    endPoint g j st body off s = cycleReturn (finishTest g.slot (pointRecorded g j st body off s)) := rfl

theorem pointRecorded_frame (g : Granted) (j : Job) (st : Status) (body : PointBody) (off : Int × Int) (s : State) :
    pointRecorded g j st body off s = { s with
      ports := (pointRecorded g j st body off s).ports, jobs := (pointRecorded g j st body off s).jobs
      points := s.points.filter fun p => !(p.slot = g.slot && p.state = .granted)
      results := (pointRecorded g j st body off s).results, verif := (pointRecorded g j st body off s).verif } := by
  simp only [pointRecorded]
  rw [updateJob_frame, countRecord_frame, writeRecord_frame]
  rfl

theorem cycleReturn_eq (s : State) : cycleReturn s =
    if s.cycle.haltOnEnd then haltHead { s with cycle := {} } else idleHead { s with cycle := {} } := rfl

theorem cycleReturn_frame (s : State) :
    cycleReturn s = { s with ports := (cycleReturn s).ports, arb := (cycleReturn s).arb, cycle := {} } := by
  rw [cycleReturn_eq]
  split
  · rw [haltHead_frame]
  · rfl

/-- What the end of a cycle with its record may change. -/
theorem endPoint_frame (g : Granted) (j : Job) (st : Status) (body : PointBody) (off : Int × Int) (s : State) :
    endPoint g j st body off s = { s with
      ports := (endPoint g j st body off s).ports, jobs := (endPoint g j st body off s).jobs
      points := (endPoint g j st body off s).points, arb := (endPoint g j st body off s).arb, cycle := {}
      results := (endPoint g j st body off s).results, cal := (endPoint g j st body off s).cal
      verif := (endPoint g j st body off s).verif } := by
  rw [endPoint_eq, cycleReturn_frame, finishTest_frame, pointRecorded_frame]

theorem clearingRecord_frame (g : Granted) (s : State) : clearingRecord g s = { s with
    ports := (clearingRecord g s).ports, jobs := (clearingRecord g s).jobs, points := (clearingRecord g s).points
    arb := (clearingRecord g s).arb, cycle := (clearingRecord g s).cycle, results := (clearingRecord g s).results
    map := (clearingRecord g s).map, cal := (clearingRecord g s).cal, verif := (clearingRecord g s).verif } := by
  simp only [clearingRecord]
  split
  next j _ =>
    rw [endPoint_frame]
    split <;> rfl
  next => rw [cycleReturn_frame]

/-- What the clearing path may change at its end. -/
theorem clearingDone_frame (s : State) : clearingDone s = { s with
    ports := (clearingDone s).ports, jobs := (clearingDone s).jobs, points := (clearingDone s).points
    arb := (clearingDone s).arb, cycle := (clearingDone s).cycle, results := (clearingDone s).results
    map := (clearingDone s).map, cal := (clearingDone s).cal, verif := (clearingDone s).verif } := by
  unfold clearingDone
  split
  · split
    · rw [clearingRecord_frame]
    · rw [cycleReturn_frame]
  · rfl

/-- What the way into CLEARING may change. -/
theorem enterClearing_frame (s : State) : enterClearing s = { s with
    ports := (enterClearing s).ports, jobs := (enterClearing s).jobs, points := (enterClearing s).points
    arb := (enterClearing s).arb, cycle := (enterClearing s).cycle, stage := (enterClearing s).stage
    cap := (enterClearing s).cap, meas := (enterClearing s).meas, results := (enterClearing s).results
    map := (enterClearing s).map, cal := (enterClearing s).cal, verif := (enterClearing s).verif } := by
  simp only [enterClearing]
  rw [clearingDone_frame, dropWork_frame]
  rfl

theorem failPoint_frame (st : Status) (s : State) : failPoint st s = { s with
    ports := (failPoint st s).ports, jobs := (failPoint st s).jobs, points := (failPoint st s).points
    arb := (failPoint st s).arb, cycle := (failPoint st s).cycle, stage := (failPoint st s).stage
    cap := (failPoint st s).cap, meas := (failPoint st s).meas, results := (failPoint st s).results
    map := (failPoint st s).map, cal := (failPoint st s).cal, verif := (failPoint st s).verif } := by
  simp only [failPoint]
  rw [enterClearing_frame]
  rfl

/-- The actuator's failure report leaves the actuator and the turret alone. -/
theorem cycleActuatorFailed_frame (st : Status) (d : Option Int) (s : State) : cycleActuatorFailed st d s = { s with
    ports := (cycleActuatorFailed st d s).ports, jobs := (cycleActuatorFailed st d s).jobs
    points := (cycleActuatorFailed st d s).points, arb := (cycleActuatorFailed st d s).arb
    cycle := (cycleActuatorFailed st d s).cycle, stage := (cycleActuatorFailed st d s).stage
    cap := (cycleActuatorFailed st d s).cap, meas := (cycleActuatorFailed st d s).meas
    results := (cycleActuatorFailed st d s).results, map := (cycleActuatorFailed st d s).map
    cal := (cycleActuatorFailed st d s).cal, verif := (cycleActuatorFailed st d s).verif } := by
  have hdepth : ∀ u, cycleDepth d u = { u with cycle := (cycleDepth d u).cycle } := fun u => by
    unfold cycleDepth; split <;> rfl
  simp only [cycleActuatorFailed]
  split
  · split
    · simp only [failEquipment]; rw [failPoint_frame, hdepth]; rfl
    · rw [failPoint_frame, hdepth]; rfl
  · rw [clearingDone_frame]
    split <;> rfl
  · rfl

theorem recordFault_frame (code : FaultCode) (sub : Option SubReason) (s : State) : recordFault code sub s = { s with
    ports := (recordFault code sub s).ports, arb := (recordFault code sub s).arb
    cycle := (recordFault code sub s).cycle } := by
  simp only [recordFault]
  split
  · rfl
  · split
    next => rw [haltHead_frame]; rfl
    next => rfl
    next => rfl
    next => rw [haltHead_frame]; rfl
    next => rw [haltHead_frame]; rfl
    next => rfl

section
variable {W : Prop} {s : State}

/-! ## The end of a point keeps the invariants -/

theorem cycleReturn_keeps_but_account : Keeps False s (cycleReturn s) := by
  rw [cycleReturn_eq]
  split
  · exact Keeps.trans (t := { s with cycle := {} }) (keeps_cycle False.elim (.inr False.elim)) (haltHead_keeps False.elim)
  · exact Keeps.trans (t := { s with cycle := {} }) (keeps_cycle False.elim (.inr False.elim)) (idleHead_keeps False.elim)

/-- The account after a cycle whose point is gone. -/
theorem account_cycleReturn (hl : s.Ledger 0) (hp : s.grantedPoints = []) (hc : s.cap.state = .idle)
    (hm : s.meas.run = none) (ht : s.selftest.run = none) : Account (cycleReturn s) := by
  have hledger : ({ s with cycle := {} } : State).Ledger 0 := hl
  have hpoints : (cycleReturn s).grantedPoints = [] := by rw [cycleReturn_frame]; exact hp
  refine ⟨?_, fun g hg => ?_, fun _ => hpoints, .inr ?_, .inl ?_, .inl ?_, .inl ?_⟩
  · rw [hpoints, cycleReturn_frame]; exact hl
  · rw [cycleReturn_frame] at hg; cases hg
  · rw [cycleReturn_frame]
  · rw [cycleReturn_frame]; exact hc
  · rw [cycleReturn_frame]; exact hm
  · rw [cycleReturn_frame]; exact ht

theorem cycleReturn_keeps
    (h : W → Account s → s.cycle.granted = none ∧ s.cap.state = .idle ∧ s.meas.run = none ∧ s.selftest.run = none) :
    Keeps W s (cycleReturn s) :=
  cycleReturn_keeps_but_account.with_account fun hW ha => by
    obtain ⟨hg, hc, hm, ht⟩ := h hW ha
    have hp := ha.ungranted hg
    have hl := ha.ledger
    rw [hp] at hl
    exact account_cycleReturn hl hp hc hm ht

theorem dropGranted_keeps_but_account (i : Slot) : Keeps False s (dropGranted i s) := keeps_points False.elim

theorem pointRecorded_keeps_but_account (g : Granted) (j : Job) (st : Status) (body : PointBody) (off : Int × Int) :
    Keeps False s (pointRecorded g j st body off s) :=
  ((((writeRecord_keeps_but_account _).trans (countRecord_keeps _)).trans (dropGranted_keeps_but_account _)).trans
    (keeps_updateJob fun j' => by unfold countStatus; split <;> rfl)).trans (keeps_setSlot rfl)

/-- The record takes the granted point's reservation, and the point is gone. -/
theorem ledger_pointRecorded {g : Granted} {n : Nat} (h : s.Ledger (n + 1)) (j : Job) (st : Status) (body : PointBody)
    (off : Int × Int) : (pointRecorded g j st body off s).Ledger n := by
  have hresults : ∃ r, (pointRecorded g j st body off s).results = (writeRecord r s).results := ⟨_, by
    simp only [pointRecorded, State.setSlot_results]
    rw [updateJob_frame, dropGranted_results, countRecord_frame]⟩
  have hcount : (pointRecorded g j st body off s).jobCount = s.jobCount := jobCount_congr fun k => by
    have hupdate : ∀ (u : State) (f : Job → Job) (k : Slot), ((u.updateJob g.slot f).slot k).job.isSome =
        (u.slot k).job.isSome := fun u f k => by
      cases hj : (u.slot g.slot).job with
      | none => simp only [State.updateJob, hj]
      | some j' =>
        rw [updateJob_of_job hj]
        by_cases hk : k = g.slot
        · subst hk; rw [slot_setSlot_same]; simp [hj]
        · rw [slot_setSlot_ne _ hk]
    have hbefore : ∀ (r : Record) (k : Slot),
        (dropGranted g.slot (countRecord j.params (writeRecord r s))).slot k = s.slot k := fun r k => by
      rw [countRecord_frame, writeRecord_frame]; rfl
    simp only [pointRecorded]
    by_cases hk : k = g.slot
    · subst hk; rw [slot_setSlot_same]; exact (hupdate _ _ _).trans (congrArg _ (congrArg _ (hbefore _ _)))
    · rw [slot_setSlot_ne _ hk]; exact (hupdate _ _ _).trans (congrArg _ (congrArg _ (hbefore _ _)))
  obtain ⟨r, hr⟩ := hresults
  have hlength := records_length_write r s
  have hreserved : (writeRecord r s).results.reserved = s.results.reserved - 1 := by rw [writeRecord_results]
  obtain ⟨hres, hroom⟩ := h
  refine ⟨?_, ?_⟩ <;> rw [hr] <;> omega

/-- The granted point of a cycle ends with its record, both engines at rest. -/
theorem endPoint_keeps {g : Granted} {j : Job} {st : Status} {body : PointBody} {off : Int × Int}
    (h : W → Account s → s.cycle.granted = some g ∧ s.cap.state = .idle ∧ s.meas.run = none) :
    Keeps W s (endPoint g j st body off s) := by
  refine Keeps.with_account (((pointRecorded_keeps_but_account g j st body off).trans
    (finishTest_keeps_but_account g.slot)).trans cycleReturn_keeps_but_account) fun hW ha => ?_
  obtain ⟨hg, hcap, hmeas⟩ := h hW ha
  obtain ⟨hslots, -, hbusy⟩ := ha.granted g hg
  have hlength : s.grantedPoints.length = 1 := by simpa using congrArg List.length hslots
  have hpoints : (finishTest g.slot (pointRecorded g j st body off s)).grantedPoints = [] := by
    rw [finishTest_frame, pointRecorded_frame, State.grantedPoints, List.filter_filter]
    refine List.filter_eq_nil_iff.mpr fun p hp => ?_
    simp only [Bool.and_eq_true, decide_eq_true_eq, Bool.not_eq_true', Bool.and_eq_false_iff,
      decide_eq_false_iff_not, not_and, not_or, not_not]
    intro hgr
    have hmem : p.slot ∈ s.grantedPoints.map Point.slot :=
      List.mem_map_of_mem (List.mem_filter.mpr ⟨hp, by simpa using hgr⟩)
    rw [hslots, List.mem_singleton] at hmem
    exact ⟨hmem, hgr⟩
  rw [endPoint_eq]
  refine account_cycleReturn ?_ hpoints ?_ ?_ ?_
  · have hl := ha.ledger
    rw [hlength] at hl
    exact ledger_finishTest (ledger_pointRecorded (n := 0) hl j st body off) g.slot
  · rw [finishTest_frame, pointRecorded_frame]; exact hcap
  · rw [finishTest_frame, pointRecorded_frame]; exact hmeas
  · rw [finishTest_frame, pointRecorded_frame]; exact ha.test_none (by simp [hbusy])

/-! ## The clearing path -/

theorem clearingRecord_keeps {g : Granted} (hs : s.cycle.state = .clearing) (hg : s.cycle.granted = some g) :
    Keeps W s (clearingRecord g s) := by
  simp only [clearingRecord]
  split
  next j _ =>
    have hrest : ∀ {u : State}, u.cycle = s.cycle → Account u →
        u.cycle.granted = some g ∧ u.cap.state = .idle ∧ u.meas.run = none := fun hu ha =>
      ⟨hu ▸ hg, ha.cap_idle (by rw [hu, hs]; decide), ha.meas_none (by rw [hu, hs]; decide)⟩
    split
    · exact (addMapEntry_keeps _).trans (endPoint_keeps fun _ => hrest rfl)
    · exact endPoint_keeps fun _ => hrest rfl
  next hnone =>
    refine cycleReturn_keeps_but_account.with_account fun _ ha => ?_
    obtain ⟨-, hjob, -⟩ := ha.granted g hg
    rw [hnone] at hjob
    cases hjob

theorem clearingDone_keeps : Keeps W s (clearingDone s) := by
  unfold clearingDone
  split
  next hpend =>
    simp only [Bool.and_eq_true, decide_eq_true_eq] at hpend
    obtain ⟨⟨⟨hs, -⟩, -⟩, -⟩ := hpend
    split
    next g hg => exact clearingRecord_keeps hs hg
    next hg => exact cycleReturn_keeps fun _ ha =>
      ⟨hg, ha.cap_idle (by simp [hs]), ha.meas_none (by simp [hs]),
        ha.test_none (by rw [ha.busy (by simp [hs])]; decide)⟩
  next => exact .refl W s

/-- A state of the cycle with both engines at rest. -/
theorem onRest_keeps {f : Cycle → Cycle} (hg : (f s.cycle).granted = s.cycle.granted)
    (h : W → Account s → s.arb.head = .busy ∧ s.cap.state = .idle ∧ s.meas.run = none) : Keeps W s (onCycle f s) :=
  keeps_cycle (fun _ => hg) (.inr fun hW ha => by
    obtain ⟨hb, hc, hm⟩ := h hW ha
    exact ⟨hb, .inl hc, .inl hm⟩)

theorem enterClearing_keeps (h : W → Account s → s.arb.head = .busy) : Keeps W s (enterClearing s) := by
  refine Keeps.assuming ?_
  simp only [enterClearing]
  refine (dropWork_keeps.trans (onRest_keeps rfl fun hW _ => ⟨?_, dropWork_cap_idle, dropWork_meas_none⟩)).trans
    clearingDone_keeps
  rw [dropWork_frame]
  exact h hW.1 hW.2

theorem failPoint_keeps (st : Status) (h : W → Account s → s.arb.head = .busy) : Keeps W s (failPoint st s) := by
  refine Keeps.assuming ?_
  exact (keeps_onCycle (f := fun c => { c with outcome := some st }) rfl rfl).trans
    (enterClearing_keeps fun hW _ => h hW.1 hW.2)

theorem failEquipment_keeps (st : Status) (h : W → Account s → s.arb.head = .busy) : Keeps W s (failEquipment st s) := by
  refine Keeps.assuming ?_
  exact (keeps_onCycle (f := fun c => { c with haltOnEnd := true }) rfl rfl).trans
    (failPoint_keeps st fun hW _ => h hW.1 hW.2)

theorem cycleTurretFailed_keeps : Keeps W s (cycleTurretFailed s) := by
  unfold cycleTurretFailed
  split
  next hs =>
    exact (keeps_onCycle (f := fun c => { c with pendTurret := false }) rfl rfl).trans
      (failEquipment_keeps _ fun _ ha => ha.busy (by simp [hs]))
  next hs =>
    exact (keeps_onCycle (f := fun c => { c with pendTurret := false }) rfl rfl).trans
      (failEquipment_keeps _ fun _ ha => ha.busy (by simp [hs]))
  next =>
    exact (keeps_onCycle (f := fun c => { c with pendTurret := false, haltOnEnd := true }) rfl rfl).trans
      clearingDone_keeps
  next => exact .refl W s

/-! ## Asking the turret and the stage -/

theorem retracted_of_accepted {t : TurretState} {n : Station} {a : ActState} (h : rotationAnswer t n a = .accepted) :
    a = .retracted := by
  unfold rotationAnswer at h
  split at h
  · split at h
    · cases h
    · split at h
      next ha => exact ha
      next => cases h
  all_goals cases h

theorem rotationRequest_keeps (req : TurretReq) (n : Station) : Keeps W s (rotationRequest req n s) := by
  unfold rotationRequest
  split
  next => exact .refl W s
  next hacc =>
    split
    · exact keeps_turret fun _ => .inr (retracted_of_accepted hacc)
    · exact .refl W s
  next => exact keeps_turret .inl

theorem askTurret_keeps (n : Station) : Keeps W s (askTurret n s) := by
  unfold askTurret
  split
  next => exact .refl W s
  next => exact (rotationRequest_keeps _ _).trans (keeps_onCycle (f := fun c => { c with pendTurret := true }) rfl rfl)
  next => exact ((rotationRequest_keeps _ _).trans (recordFault_keeps _ _)).trans cycleTurretFailed_keeps

theorem askStage_keeps (k : OrderKind) (x y : Int) : Keeps W s (askStage k x y s) :=
  (publishOrder_keeps k x y).trans (keeps_onCycle (f := fun c => { c with pendStage := true }) rfl rfl)

theorem enterViewing_keeps (h : W → Account s → s.arb.head = .busy ∧ s.cap.state = .idle ∧ s.meas.run = none) :
    Keeps W s (enterViewing s) := by
  unfold enterViewing
  split
  · exact ((onRest_keeps (f := fun c => { c with state := .viewing }) rfl h).trans (askStage_keeps _ _ _)).trans
      (askTurret_keeps _)
  · exact .refl W s

theorem decideFallback_keeps (h : W → Account s → s.arb.head = .busy ∧ s.cap.state = .idle ∧ s.meas.run = none) :
    Keeps W s (decideFallback s) := by
  refine Keeps.assuming ?_
  unfold decideFallback
  split
  next n _ =>
    exact ((keeps_onCycle (f := fun c => { c with fallbackUsed := true, objective := some n }) rfl rfl).trans
      (keeps_onCycle (f := fun c => { c with known := { c.known with hEff := none, roiReduced := none } }) rfl rfl)).trans
      (enterViewing_keeps fun hW _ => h hW.1 hW.2)
  next => exact failPoint_keeps _ fun hW ha => (h hW.1 ha).1

/-! ## The actuator's reports -/

theorem onKnown_keeps (f : Known → Known) : Keeps W s (onKnown f s) :=
  keeps_onCycle (f := fun c => { c with known := f c.known }) rfl rfl

theorem cycleContact_keeps : Keeps W s (cycleContact s) := by
  unfold cycleContact
  split
  · exact keeps_onCycle (f := fun c => { c with contactMade := true }) rfl rfl
  · exact .refl W s

theorem cycleDwellDone_keeps (f : Int) (ms : Nat) (d : Option Int) : Keeps W s (cycleDwellDone f ms d s) := by
  unfold cycleDwellDone
  split
  · exact onKnown_keeps _
  · exact .refl W s

theorem cycleDepth_keeps (d : Option Int) : Keeps W s (cycleDepth d s) := by
  unfold cycleDepth
  split
  · exact onKnown_keeps _
  · exact .refl W s

theorem cycleDepth_cycle_state (d : Option Int) : (cycleDepth d s).cycle.state = s.cycle.state := by
  unfold cycleDepth; split <;> rfl

theorem cycleActuatorFailed_keeps (st : Status) (d : Option Int) : Keeps W s (cycleActuatorFailed st d s) := by
  simp only [cycleActuatorFailed]
  have hdrop : ∀ b, Keeps W s (onCycle (fun c => { c with pendActuator := c.pendActuator && b }) s) :=
    fun _ => keeps_onCycle rfl rfl
  split
  next hs =>
    have hbusy : ∀ b, W → Account (cycleDepth d (onCycle (fun c => { c with pendActuator := c.pendActuator && b }) s)) →
        (cycleDepth d (onCycle (fun c => { c with pendActuator := c.pendActuator && b }) s)).arb.head = .busy :=
      fun b _ ha => ha.busy (by rw [cycleDepth_cycle_state]; simp [hs])
    split
    · exact ((hdrop _).trans (cycleDepth_keeps d)).trans (failEquipment_keeps st (hbusy _))
    · exact ((hdrop _).trans (cycleDepth_keeps d)).trans (failPoint_keeps st (hbusy _))
  next =>
    split
    · exact ((hdrop _).trans (keeps_onCycle (f := fun c => { c with haltOnEnd := true }) rfl rfl)).trans
        clearingDone_keeps
    · exact (hdrop _).trans clearingDone_keeps
  next => exact .refl W s

theorem cycleAbandoned_keeps (d : Option Int) : Keeps W s (cycleAbandoned d s) := by
  unfold cycleAbandoned
  split
  · exact cycleDepth_keeps d
  · exact .refl W s

theorem cycleRetracted_keeps : Keeps W s (cycleRetracted s) := by
  unfold cycleRetracted
  split
  next hs =>
    exact (keeps_onCycle (f := fun c => { c with pendActuator := false }) rfl rfl).trans (enterViewing_keeps fun _ ha =>
      ⟨ha.busy (by simp [hs]), ha.cap_idle (by simp [hs]), ha.meas_none (by simp [hs])⟩)
  next => exact (keeps_onCycle (f := fun c => { c with pendActuator := false }) rfl rfl).trans clearingDone_keeps
  next => exact .refl W s

end

end Sys2Proof.Machine
end

section
/-! PROOFS. The actuator and the acquisition rounds keep the invariants (R69, R80 to R101): what each operation needs of the
actuator's state is named with it. -/

namespace Sys2Proof.Machine

/-! ## The actuator and the turret across a report -/

/-- Two states agree in the actuator's state, the turret and the pins. -/
def SameMotion (s t : State) : Prop := t.act.state = s.act.state ∧ t.turret = s.turret

theorem sameMotion_failCycle (st : Status) (s : State) : SameMotion s (failCycle st s) := by
  unfold failCycle
  rw [cycleActuatorFailed_frame]
  exact ⟨rfl, rfl⟩

theorem sameMotion_recordFault (code : FaultCode) (sub : Option SubReason) (s : State) :
    SameMotion s (recordFault code sub s) := by
  rw [recordFault_frame]
  exact ⟨rfl, rfl⟩

theorem sameMotion_cycleContact (s : State) : SameMotion s (cycleContact s) := by
  unfold cycleContact; split <;> exact ⟨rfl, rfl⟩

theorem sameMotion_cycleDwellDone (f : Int) (ms : Nat) (d : Option Int) (s : State) :
    SameMotion s (cycleDwellDone f ms d s) := by
  unfold cycleDwellDone; split <;> exact ⟨rfl, rfl⟩

theorem sameMotion_cycleAbandoned (d : Option Int) (s : State) : SameMotion s (cycleAbandoned d s) := by
  unfold cycleAbandoned; split
  · unfold cycleDepth; split <;> exact ⟨rfl, rfl⟩
  · exact ⟨rfl, rfl⟩

/-- The actuator may leave its state: it is not RETRACTED, or the turret is at rest (R90). -/
def State.mayLeave (s : State) : Prop := s.act.state ≠ .retracted ∨ s.turret.moving = false

theorem SameMotion.mayLeave {s t : State} (h : SameMotion s t) (hs : s.mayLeave) : t.mayLeave := by
  obtain ⟨hact, hturret⟩ := h
  rw [State.mayLeave, hact, hturret]
  exact hs

section
variable {W : Prop} {s : State}

theorem onAct_keeps {f : Actuator → Actuator} (h : (f s.act).state = s.act.state) : Keeps W s (onAct f s) :=
  keeps_act (.inr (.inl h))

/-- A state of the actuator left for another. -/
theorem onAct_keeps_of_mayLeave {f : Actuator → Actuator} (h : s.mayLeave) : Keeps W s (onAct f s) :=
  keeps_act (.inr (.inr h))

/-! ## Coming to rest -/

theorem homingRequest_keeps : Keeps W s (homingRequest s) := by
  unfold homingRequest
  split
  next r _ => exact Keeps.trans (t := setTurret s.turret.state (some r) s) (keeps_turret .inl) (recordFault_keeps _ _)
  next hnone =>
    refine keeps_turret fun _ => .inr ?_
    unfold homingRefusal at hnone
    split at hnone
    · cases hnone
    next ha => exact not_not.mp ha

theorem arbiterRetracted_keeps : Keeps W s (arbiterRetracted s) := by
  unfold arbiterRetracted
  split
  · exact homingRequest_keeps
  · exact homingRequest_keeps
  · exact .refl W s

theorem reportRetracted_keeps (who : Option (ActReq × Asked)) : Keeps W s (reportRetracted who s) := by
  unfold reportRetracted
  split
  · exact arbiterRetracted_keeps
  · exact cycleRetracted_keeps
  · exact .refl W s

theorem beginIndent_keeps (p : IndentParams) (h : s.turret.moving = false) : Keeps W s (beginIndent p s) := by
  unfold beginIndent
  split
  · exact keeps_act (.inr (.inr (.inr h)))
  · exact ((onAct_keeps (f := fun a => { a with held := none, lastFailure := some .noContact }) rfl).trans
      (cycleActuatorFailed_keeps _ _)).trans cycleRetracted_keeps

theorem startHeld_keeps : Keeps W s (startHeld s) := by
  unfold startHeld
  split
  · split
    next h =>
      simp only [Bool.and_eq_true, Bool.not_eq_true'] at h
      exact beginIndent_keeps _ h.2
    next => exact .refl W s
  · exact .refl W s

theorem becomeRetracted_keeps : Keeps W s (becomeRetracted s) := by
  simp only [becomeRetracted]
  have hrest : Keeps W s (onAct (fun a => { a with state := .retracted, stallTimer := false, requester := none }) s) :=
    keeps_act (.inl rfl)
  exact (hrest.trans (reportRetracted_keeps _)).trans startHeld_keeps

theorem enterRetracting_keeps (h : s.mayLeave) : Keeps W s (enterRetracting s) := by
  simp only [enterRetracting]
  split
  · exact (onAct_keeps_of_mayLeave h).trans becomeRetracted_keeps
  · exact onAct_keeps_of_mayLeave h

theorem enterUnloading_keeps (h : s.mayLeave) : Keeps W s (enterUnloading s) := onAct_keeps_of_mayLeave h

theorem judgeUnloading_keeps (p : IndentParams) (f : Int) : Keeps W s (judgeUnloading p f s) := by
  unfold judgeUnloading
  split
  next h => exact enterRetracting_keeps (.inl (by simp [h.1]))
  next => exact .refl W s

/-! ## The readings of a cycle -/

theorem failCycle_keeps (st : Status) : Keeps W s (failCycle st s) :=
  (onAct_keeps (f := fun a => { a with lastFailure := some st, loadTimer := false, dwellTimer := false }) rfl).trans
    (cycleActuatorFailed_keeps _ _)

theorem overload_keeps (p : IndentParams) (f : Int) (h : s.mayLeave) : Keeps W s (overload p f s) :=
  (((recordFault_keeps _ _).trans (failCycle_keeps _)).trans
    (enterUnloading_keeps ((sameMotion_failCycle _ _).mayLeave ((sameMotion_recordFault _ _ _).mayLeave h)))).trans
    (judgeUnloading_keeps p f)

theorem judgeLoading_keeps (p : IndentParams) (f : Int) (h : s.mayLeave) : Keeps W s (judgeLoading p f s) := by
  unfold judgeLoading
  split
  · exact overload_keeps p f h
  · split
    · exact onAct_keeps_of_mayLeave h
    · exact .refl W s

theorem judgeDwelling_keeps (p : IndentParams) (f : Int) (h : s.mayLeave) : Keeps W s (judgeDwelling p f s) := by
  unfold judgeDwelling
  split
  · exact overload_keeps p f h
  · split
    · exact ((failCycle_keeps _).trans (enterUnloading_keeps ((sameMotion_failCycle _ _).mayLeave h))).trans
        (judgeUnloading_keeps p f)
    · exact onAct_keeps rfl

theorem makeContact_keeps (f : Int) (h : s.mayLeave) : Keeps W s (makeContact f s) :=
  (onAct_keeps_of_mayLeave h).trans cycleContact_keeps

theorem makeContact_mayLeave (f : Int) : (makeContact f s).mayLeave := by
  unfold makeContact
  exact (sameMotion_cycleContact _).mayLeave (.inl (by simp [onAct]))

theorem judgeTravel_keeps (p : IndentParams) (h : s.mayLeave) : Keeps W s (judgeTravel p s) := by
  unfold judgeTravel
  split
  · exact (failCycle_keeps _).trans (enterRetracting_keeps ((sameMotion_failCycle _ _).mayLeave h))
  · exact .refl W s

theorem judgeApproach_keeps (p : IndentParams) (f : Int) (h : s.mayLeave) : Keeps W s (judgeApproach p f s) := by
  unfold judgeApproach
  split
  · exact (makeContact_keeps f h).trans (judgeLoading_keeps p f (makeContact_mayLeave f))
  · exact judgeTravel_keeps p h

theorem taredReading_keeps (p : IndentParams) (f : Int) : Keeps W s (taredReading p f s) := by
  unfold taredReading
  split
  next h => exact judgeApproach_keeps p f (.inl (by simp [h]))
  next h => exact judgeLoading_keeps p f (.inl (by simp [h]))
  next h => exact judgeDwelling_keeps p f (.inl (by simp [h]))
  next => exact judgeUnloading_keeps p f
  next => exact .refl W s

theorem forcelessReading_keeps (p : IndentParams) : Keeps W s (forcelessReading p s) := by
  unfold forcelessReading
  split
  next h => exact judgeTravel_keeps p (.inl (by simp [h]))
  next => exact .refl W s

theorem readingEvent_keeps : Keeps W s (readingEvent s) := by
  unfold readingEvent
  split
  · exact taredReading_keeps _ _
  · exact forcelessReading_keeps _
  · exact .refl W s

/-! ## Timers -/

theorem loadTimeout_keeps : Keeps W s (loadTimeout s) := by
  unfold loadTimeout
  split
  next h =>
    exact (failCycle_keeps _).trans (enterUnloading_keeps ((sameMotion_failCycle _ _).mayLeave (.inl (by simp [h.1]))))
  next => exact .refl W s

theorem finishDwell_keeps (p : IndentParams) (h : s.act.state = .dwelling) : Keeps W s (finishDwell p s) := by
  simp only [finishDwell]
  refine Keeps.trans (onAct_keeps rfl) ((cycleDwellDone_keeps _ _ _).trans (enterUnloading_keeps
    ((sameMotion_cycleDwellDone _ _ _ _).mayLeave (.inl ?_))))
  simp [onAct, h]

theorem dwellDone_keeps : Keeps W s (dwellDone s) := by
  unfold dwellDone
  split
  · split
    next h => exact finishDwell_keeps _ h.1
    next => exact .refl W s
  · exact .refl W s

theorem reportStalled_keeps (who : Option (ActReq × Asked)) (held : Option IndentParams) :
    Keeps W s (reportStalled who held s) := by
  unfold reportStalled
  extract_lets forCycle
  split
  · exact cycleActuatorFailed_keeps _ _
  · exact .refl W s

theorem stallExpiry_keeps : Keeps W s (stallExpiry s) := by
  simp only [stallExpiry]
  split
  next h =>
    refine Keeps.trans (onAct_keeps_of_mayLeave (.inl ?_)) ((recordFault_keeps _ _).trans (reportStalled_keeps _ _))
    rcases h.1 with h | h <;> simp [h]
  next => exact .refl W s

/-! ## Requests -/

theorem indentRequest_keeps (p : IndentParams) : Keeps W s (indentRequest p s) := by
  unfold indentRequest
  split
  · split
    · exact onAct_keeps rfl
    next h => exact beginIndent_keeps p (by simpa using h)
  · exact onAct_keeps rfl
  · exact (recordFault_keeps _ _).trans (cycleActuatorFailed_keeps _ _)

theorem abandonIndent_keeps (h : s.mayLeave) : Keeps W s (abandonIndent s) :=
  ((onAct_keeps (f := fun a => { a with loadTimer := false, dwellTimer := false }) rfl).trans
    (cycleAbandoned_keeps _)).trans (enterUnloading_keeps ((sameMotion_cycleAbandoned _ _).mayLeave h))

theorem retractRequest_keeps (who : ActReq) : Keeps W s (retractRequest who s) := by
  simp only [retractRequest]
  have hask : Keeps W s (onAct (fun a => { a with requester := some (who, .retract), held := none }) s) := onAct_keeps rfl
  split
  next => exact hask.trans becomeRetracted_keeps
  next => exact hask
  next h => exact hask.trans (enterRetracting_keeps (.inl (by simp [onAct, h])))
  next h => exact hask.trans (abandonIndent_keeps (.inl (by simp [onAct, h])))
  next h => exact hask.trans (abandonIndent_keeps (.inl (by simp [onAct, h])))
  next => exact hask
  next h => exact hask.trans (enterRetracting_keeps (.inl (by simp [onAct, h])))

/-! ## The top limit and the end of a motion -/

theorem dropRetract_keeps (h : s.turret.moving = false) : Keeps W s (dropRetract s) := onAct_keeps_of_mayLeave (.inr h)

theorem topLimitOn_keeps : Keeps W s (topLimitOn s) := by
  simp only [topLimitOn]
  have hpin : Keeps W s { s with pins := { s.pins with topLimit := true } } := keeps_free
  split
  · exact hpin.trans becomeRetracted_keeps
  · exact hpin

theorem topLimitOff_keeps : Keeps W s (topLimitOff s) := by
  simp only [topLimitOff]
  have hpin : Keeps W s { s with pins := { s.pins with topLimit := false } } := keeps_free
  split
  next h =>
    simp only [Bool.and_eq_true, Bool.not_eq_true'] at h
    exact hpin.trans (dropRetract_keeps h.2)
  next => exact hpin

theorem turretAtRest_keeps (h : s.turret.moving = false) : Keeps W s (turretAtRest s) := by
  unfold turretAtRest
  split
  · split
    · exact startHeld_keeps
    · exact dropRetract_keeps h
  · exact .refl W s

/-! ## Rounds -/

theorem nextRound_keeps : Keeps W s (nextRound s) := keeps_free

theorem publishRound_keeps (codes : List Word16) (d : Word16) : Keeps W s (publishRound codes d s) := keeps_free

theorem roundEnd_keeps (codes : List Word16) (d : Word16) : Keeps W s (roundEnd codes d s) := by
  unfold roundEnd
  split
  · exact ((publishRound_keeps codes d).trans readingEvent_keeps).trans nextRound_keeps
  · exact .refl W s

end

end Sys2Proof.Machine
end

section
/-! PROOFS. The cycle controller's way through its states, the self-test unit, and the arbiter keep the invariants (R20 to R60,
R182 to R186). -/

namespace Sys2Proof.Machine

/-! ## Reports of the engines -/

/-- A report of the capture engine that leaves the engine IDLE with an image or without a region (R50, R108). -/
def CapReport.rests : CapReport → Bool
  | .complete .. => true
  | .tooSmall .. => true
  | _ => false

/-- What a capture event answers: the cycle's state is as before, and a report that rests leaves the engine IDLE. -/
def Reports (s : State) (out : State × Option CapReport) : Prop :=
  out.1.cycle.state = s.cycle.state ∧ ∀ r, out.2 = some r → r.rests = true → out.1.cap.state = .idle

theorem recordFault_cycle_state (code : FaultCode) (sub : Option SubReason) (s : State) :
    (recordFault code sub s).cycle.state = s.cycle.state := by
  simp only [recordFault]
  split
  · rfl
  · split
    next => rw [haltHead_frame]; rfl
    next => rfl
    next => rfl
    next => rw [haltHead_frame]; rfl
    next => rw [haltHead_frame]; rfl
    next => rfl

theorem startFirst_frame (s : State) : startFirst s = { s with cap := (startFirst s).cap } := by
  unfold startFirst; split <;> rfl

theorem actOnFailure_reports (k : FailKind) (s : State) : Reports s (actOnFailure k s) := by
  simp only [actOnFailure]
  split
  · refine ⟨by dsimp only; rw [startFirst_frame], ?_⟩
    rintro r hr hrests
    obtain rfl := Option.some.inj hr
    cases hrests
  · refine ⟨?_, ?_⟩
    · dsimp only
      split
      · rw [recordFault_cycle_state]; rfl
      · rfl
    · rintro r hr hrests
      obtain rfl := Option.some.inj hr
      cases hrests

theorem endFrame_reports (roi : Roi) (s : State) : Reports s (endFrame roi s) := by
  simp only [endFrame]
  split
  · exact actOnFailure_reports _ (noteFailure .shortFrame s)
  · split
    · exact ⟨rfl, fun r hr => nomatch hr⟩
    · exact ⟨rfl, fun _ _ _ => rfl⟩

theorem discardEnd_reports (s : State) : Reports s (discardEnd s) := by
  simp only [discardEnd]
  split
  · exact actOnFailure_reports _ s
  · exact ⟨rfl, fun r hr => nomatch hr⟩

theorem takeMarker_reports (s : State) : Reports s (takeMarker s) := by
  simp only [takeMarker]
  split
  · split
    · exact endFrame_reports _ s
    · exact ⟨rfl, fun r hr => nomatch hr⟩
  · exact discardEnd_reports s
  · exact ⟨by dsimp only; rw [startFirst_frame]; rfl, fun r hr => nomatch hr⟩
  · exact ⟨rfl, fun r hr => nomatch hr⟩
  · exact ⟨rfl, fun r hr => nomatch hr⟩

/-- A report comes from an engine at work. -/
theorem takeMarker_busy {s : State} (h : (takeMarker s).2 ≠ none) : s.cap.state ≠ .idle := fun hs =>
  h (by simp only [takeMarker, hs])

theorem takeFrameTimeout_reports (s : State) : Reports s (takeFrameTimeout s) := by
  simp only [takeFrameTimeout]
  split
  · split
    · exact actOnFailure_reports _ (noteFailure .frameTimeout s)
    · exact discardEnd_reports s
    · exact ⟨rfl, fun r hr => nomatch hr⟩
  · exact ⟨rfl, fun r hr => nomatch hr⟩

theorem takeFrameTimeout_busy {s : State} (h : (takeFrameTimeout s).2 ≠ none) : s.cap.state ≠ .idle := fun hs =>
  h (by simp only [takeFrameTimeout, hs, ite_self])

theorem requestCapture_reports (n : Station) (h : Nat) (l : Illum) (s : State) : Reports s (requestCapture n h l s) := by
  simp only [requestCapture]
  split
  · refine ⟨recordFault_cycle_state _ _ s, ?_⟩
    rintro r hr hrests
    obtain rfl := Option.some.inj hr
    cases hrests
  next hidle =>
    split
    · exact ⟨rfl, fun _ _ _ => not_not.mp hidle⟩
    · split
      · exact ⟨rfl, fun r hr => nomatch hr⟩
      · exact ⟨by dsimp only; rw [startFirst_frame], fun r hr => nomatch hr⟩

theorem requestMeasure_frame (r : MeasRequest) (s : State) :
    (requestMeasure r s).1 = { s with meas := (requestMeasure r s).1.meas } := by
  simp only [requestMeasure]
  rw [abandonMeasure_frame]
  split <;> rfl

theorem requestMeasure_idle {r : MeasRequest} {s : State} (h : (requestMeasure r s).2 ≠ none) :
    (requestMeasure r s).1.meas.run = none := by
  simp only [requestMeasure] at h ⊢
  split
  next hs => rw [if_pos hs] at h; exact absurd rfl h
  next => rfl

theorem takeMeasurementEnd_frame (s : State) :
    (takeMeasurementEnd s).1 = { s with meas := (takeMeasurementEnd s).1.meas } := by
  simp only [takeMeasurementEnd]
  split
  · rfl
  · split <;> rfl

theorem takeMeasurementEnd_idle (s : State) : (takeMeasurementEnd s).1.meas.run = none := by
  simp only [takeMeasurementEnd]
  split
  next h => exact h
  next => split <;> rfl

theorem takeMeasurementEnd_busy {s : State} (h : (takeMeasurementEnd s).2 ≠ none) : s.meas.run ≠ none := fun hs =>
  h (by simp only [takeMeasurementEnd, hs])

theorem cycleJob_eq {s : State} {g : Granted} {j : Job} (h : s.cycleJob = some (g, j)) :
    s.cycle.granted = some g ∧ (s.slot g.slot).job = some j := by
  simp only [State.cycleJob] at h
  split at h
  next g' hg =>
    obtain ⟨j', hj, heq⟩ := Option.map_eq_some_iff.mp h
    obtain ⟨rfl, rfl⟩ := Prod.mk.inj heq
    exact ⟨hg, hj⟩
  next => cases h

section
variable {W : Prop} {s : State}

/-! ## The cycle controller -/

theorem hardnessRecord_keeps {g : Granted} {j : Job} {m : Measured}
    (h : W → Account s → s.cycle.granted = some g ∧ s.cap.state = .idle ∧ s.meas.run = none) :
    Keeps W s (hardnessRecord g j m s) := by
  refine Keeps.assuming ?_
  simp only [hardnessRecord]
  exact (addMapEntry_keeps _).trans (endPoint_keeps fun hW _ => h hW.1 hW.2)

theorem cycleMeasured_keeps {r : Option MeasReport}
    (h : r ≠ none → W → Account s → s.cycle.state = .measuring ∧ s.meas.run = none) :
    Keeps W s (cycleMeasured r s) := by
  refine Keeps.assuming ?_
  unfold cycleMeasured
  split
  · exact .refl _ s
  next m =>
    split
    next g j hcj =>
      obtain ⟨hg, -⟩ := cycleJob_eq hcj
      refine (onKnown_keeps _).trans (hardnessRecord_keeps fun hW ha => ?_)
      obtain ⟨hs, hm⟩ := h (by simp) hW.1 hW.2
      exact ⟨hg, ha.cap_idle (by simp [onKnown, onCycle, hs]), hm⟩
    next => exact .refl _ s
  next =>
    split
    · refine decideFallback_keeps fun hW ha => ?_
      obtain ⟨hs, hm⟩ := h (by simp) hW.1 hW.2
      exact ⟨ha.busy (by simp [hs]), ha.cap_idle (by simp [hs]), hm⟩
    · refine failPoint_keeps _ fun hW ha => ?_
      obtain ⟨hs, -⟩ := h (by simp) hW.1 hW.2
      exact ha.busy (by simp [hs])

theorem enterMeasuring_keeps (id : Word16) (hEff : Nat)
    (h : W → Account s → s.arb.head = .busy ∧ s.cap.state = .idle ∧ s.meas.run = none) :
    Keeps W s (enterMeasuring id hEff s) := by
  simp only [enterMeasuring]
  split
  · refine ((onRest_keeps (f := fun c => { c with state := .measuring }) rfl h).trans
      (requestMeasure_keeps _ fun _ _ => rfl)).trans (cycleMeasured_keeps fun hr _ _ => ⟨?_, requestMeasure_idle hr⟩)
    rw [requestMeasure_frame]
    rfl
  · exact .refl W s

theorem cycleCaptured_keeps {r : Option CapReport} (h : r ≠ none → W → Account s → s.cycle.state = .capturing)
    (hrests : ∀ x, r = some x → x.rests = true → s.cap.state = .idle) : Keeps W s (cycleCaptured r s) := by
  refine Keeps.assuming ?_
  unfold cycleCaptured
  split
  · exact .refl _ s
  · exact keeps_onCycle rfl rfl
  · refine (onKnown_keeps _).trans (enterMeasuring_keeps _ _ fun hW ha => ?_)
    have hs : s.cycle.state = .capturing := h (by simp) hW.1 hW.2
    exact ⟨hW.2.busy (by simp [hs]), hrests _ rfl rfl, hW.2.meas_none (by simp [hs])⟩
  · refine (onKnown_keeps _).trans (decideFallback_keeps fun hW ha => ?_)
    have hs : s.cycle.state = .capturing := h (by simp) hW.1 hW.2
    exact ⟨hW.2.busy (by simp [hs]), hrests _ rfl rfl, hW.2.meas_none (by simp [hs])⟩
  · have hbusy : W ∧ Account s → Account s → s.arb.head = .busy := fun hW ha =>
      ha.busy (by simp [h (by simp) hW.1 hW.2])
    split
    · exact failEquipment_keeps _ hbusy
    · exact failPoint_keeps _ hbusy

theorem enterCapturing_keeps
    (h : W → Account s → s.arb.head = .busy ∧ s.cap.state = .idle ∧ s.meas.run = none) :
    Keeps W s (enterCapturing s) := by
  simp only [enterCapturing]
  split
  next g j n hcj _ =>
    obtain ⟨-, hj⟩ := cycleJob_eq hcj
    have hreports := requestCapture_reports n j.params.roi j.params.illum (onCycle (fun c => { c with state := .capturing }) s)
    exact ((onRest_keeps (f := fun c => { c with state := .capturing }) rfl h).trans
      (requestCapture_keeps (fun hr => ((roiWf_iff _).mp hr).1 _ _ hj) fun _ _ => rfl)).trans
      (cycleCaptured_keeps (fun _ _ _ => hreports.1) hreports.2)
  next => exact .refl W s

theorem enterIndenting_keeps
    (h : W → Account s → s.arb.head = .busy ∧ s.cap.state = .idle ∧ s.meas.run = none) :
    Keeps W s (enterIndenting s) := by
  unfold enterIndenting
  split
  · exact (onRest_keeps (f := fun c => { c with state := .indenting, pendActuator := true }) rfl h).trans
      (indentRequest_keeps _)
  · exact .refl W s

/-- In a state without an engine at work the head is BUSY and both engines rest. -/
theorem Account.rests (h : Account s) (hi : s.cycle.state ≠ .idle) (hc : s.cycle.state ≠ .capturing)
    (hm : s.cycle.state ≠ .measuring) : s.arb.head = .busy ∧ s.cap.state = .idle ∧ s.meas.run = none :=
  ⟨h.busy hi, h.cap_idle hc, h.meas_none hm⟩

theorem advance_keeps : Keeps W s (advance s) := by
  unfold advance
  split
  · exact .refl W s
  · split
    next hs => exact enterIndenting_keeps fun _ ha => ha.rests (by simp [hs]) (by simp [hs]) (by simp [hs])
    next hs => exact enterCapturing_keeps fun _ ha => ha.rests (by simp [hs]) (by simp [hs]) (by simp [hs])
    next => exact .refl W s

theorem cycleStageSettled_keeps : Keeps W s (cycleStageSettled s) := by
  unfold cycleStageSettled
  split
  · exact (keeps_onCycle (f := fun c => { c with pendStage := false }) rfl rfl).trans advance_keeps
  · exact (keeps_onCycle (f := fun c => { c with pendStage := false }) rfl rfl).trans advance_keeps
  · exact .refl W s

theorem cycleStageFailed_keeps (st : Status) : Keeps W s (cycleStageFailed st s) := by
  unfold cycleStageFailed
  split
  next hs => exact failPoint_keeps st fun _ ha => ha.busy (by simp [hs])
  next hs => exact failPoint_keeps st fun _ ha => ha.busy (by simp [hs])
  next => exact .refl W s

theorem cycleTurretParked_keeps : Keeps W s (cycleTurretParked s) := by
  have hpend : Keeps W s (onCycle (fun c => { c with pendTurret := false }) s) := keeps_onCycle rfl rfl
  simp only [cycleTurretParked]
  split
  · exact hpend.trans advance_keeps
  · exact hpend.trans advance_keeps
  · exact hpend.trans clearingDone_keeps
  · exact .refl W s

theorem stopClearing_keeps : Keeps W s (stopClearing s) := by
  unfold stopClearing
  split
  · exact (keeps_onCycle (f := fun c => { c with pendActuator := true }) rfl rfl).trans (retractRequest_keeps _)
  · exact .refl W s

theorem stopWork_keeps (h : W → Account s → s.arb.head = .busy) : Keeps W s (stopWork s) := by
  refine Keeps.assuming ?_
  simp only [stopWork]
  have hclear : ∀ w, Keeps (W ∧ Account s) s (onCycle (fun c => { clearingCycle
      (dropWork (onCycle (fun c => { c with outcome := some .aborted }) s)).turret
      (dropWork (onCycle (fun c => { c with outcome := some .aborted }) s)).act c with pendActuator := w })
      (dropWork (onCycle (fun c => { c with outcome := some .aborted }) s))) := fun w =>
    ((keeps_onCycle (f := fun c => { c with outcome := some .aborted }) rfl rfl).trans dropWork_keeps).trans
      (onRest_keeps rfl fun hW _ => ⟨by rw [dropWork_frame]; exact h hW.1 hW.2, dropWork_cap_idle, dropWork_meas_none⟩)
  split
  · exact (hclear _).trans (retractRequest_keeps _)
  · exact (hclear _).trans clearingDone_keeps

theorem stopCycle_keeps : Keeps W s (stopCycle s) := by
  have hhalt : Keeps W s (onCycle (fun c => { c with haltOnEnd := true }) s) := keeps_onCycle rfl rfl
  simp only [stopCycle]
  split
  next => exact .refl W s
  next => exact hhalt.trans stopClearing_keeps
  next hs _ => exact hhalt.trans (stopWork_keeps fun _ ha => ha.busy hs)

end

end Sys2Proof.Machine
end

section
/-! PROOFS. The self-test unit and the arbiter keep the invariants (R20 to R36, R182 to R186). -/

namespace Sys2Proof.Machine

/-! ## The end of a motion while the cycle rests -/

theorem cycleRetracted_of_idle {s : State} (h : s.cycle.state = .idle) : cycleRetracted s = s := by
  simp only [cycleRetracted, h]

theorem cycleActuatorFailed_of_idle {s : State} (st : Status) (d : Option Int) (h : s.cycle.state = .idle) :
    cycleActuatorFailed st d s = s := by
  simp only [cycleActuatorFailed, h]

/-- Without a cycle a held indent touches the actuator alone. -/
theorem startHeld_frame {s : State} (h : s.cycle.state = .idle) : startHeld s = { s with act := (startHeld s).act } := by
  have hbegin : ∀ p, beginIndent p s = { s with act := (beginIndent p s).act } := fun p => by
    unfold beginIndent
    split
    · rfl
    · rw [cycleActuatorFailed_of_idle _ _ (s := onAct _ s) h, cycleRetracted_of_idle (s := onAct _ s) h]; rfl
  unfold startHeld
  split
  · split
    · exact hbegin _
    · rfl
  · rfl

theorem turretAtRest_frame {s : State} (h : s.cycle.state = .idle) :
    turretAtRest s = { s with act := (turretAtRest s).act } := by
  unfold turretAtRest
  split
  · split
    · exact startHeld_frame h
    · rfl
  · rfl

theorem abandonMotion_frame {s : State} (h : s.cycle.state = .idle) :
    abandonMotion s = { s with turret := (abandonMotion s).turret, act := (abandonMotion s).act } := by
  unfold abandonMotion
  split
  · rw [turretAtRest_frame (s := setTurret .unknown s.turret.lastSub s) h]; rfl
  · rfl

theorem setFrames_counted (m : Memory) (n : Nat) (s : State) : { setFrames m s with freeCount := n } = { s with
    frames := { s.frames with mem := m }, freeCount := n } := rfl

theorem abandonFrames_frame (item : TestItem) (s : State) : ∃ f n, abandonFrames item s = { s with
    frames := f, freeCount := n } :=
  ⟨_, _, setFrames_counted _ _ s⟩

theorem abandonItem_frame {s : State} (item : TestItem) (h : s.cycle.state = .idle) : abandonItem item s = { s with
    frames := (abandonItem item s).frames, acq := (abandonItem item s).acq, turret := (abandonItem item s).turret
    act := (abandonItem item s).act, freeCount := (abandonItem item s).freeCount } := by
  have href : abandonReference s = { s with acq := (abandonReference s).acq } := by
    unfold abandonReference; split <;> rfl
  obtain ⟨f, n, hfill⟩ := abandonFrames_frame item s
  cases item with
  | pattern => simp only [abandonItem]; rw [hfill]
  | address => simp only [abandonItem]; rw [hfill]
  | force => simp only [abandonItem]; rw [href]
  | depth => simp only [abandonItem]; rw [href]
  | turret => simp only [abandonItem]; rw [abandonMotion_frame h]

theorem recordFault_head_selftest {s : State} (code : FaultCode) (sub : Option SubReason)
    (h : s.arb.head = .selftest) : (recordFault code sub s).arb.head = .selftest := by
  simp only [recordFault, h]
  split <;> exact h

section
variable {W : Prop} {s : State}

/-! ## The self-test unit -/

theorem closeTest_keeps (r : TestResult) : Keeps W s (closeTest r s) :=
  Keeps.trans (t := { s with selftest := { run := none, last := some r } }) (keeps_selftest (.inl rfl)) keeps_arb_notes

/-- A head that was in SELFTEST and closed its test has nothing running. -/
theorem Account.nothing_runs_closed {r : TestResult} (h : Account (closeTest r s)) (hs : s.arb.head = .selftest) :
    (closeTest r s).cycle.state = .idle ∧ (closeTest r s).cycle.granted = none ∧
      (closeTest r s).selftest.run = none := by
  have hb : (closeTest r s).arb.head ≠ .busy := by simp [closeTest, hs]
  exact ⟨h.cycle_idle hb, h.granted_none hb, rfl⟩

theorem testPassed_keeps (r : TestRun) (h : W → Account s → s.arb.head = .selftest) : Keeps W s (testPassed r s) := by
  refine Keeps.assuming ?_
  simp only [testPassed]
  refine Keeps.trans ?_ (answer_keeps _ _)
  split
  · exact (closeTest_keeps _).trans (haltHead_keeps fun hW ha => ha.nothing_runs_closed (h hW.1 hW.2))
  · exact (closeTest_keeps _).trans (idleHead_keeps fun hW ha => ha.nothing_runs_closed (h hW.1 hW.2))

theorem testFailed_keeps (r : TestRun) (code : TestError) (location : Word32) (expected read : Int)
    (h : W → Account s → s.arb.head = .selftest) : Keeps W s (testFailed r code location expected read s) := by
  refine Keeps.assuming ?_
  simp only [testFailed]
  refine Keeps.trans (((recordFault_keeps _ _).trans (closeTest_keeps _)).trans (haltHead_keeps fun hW ha => ?_))
    (answer_keeps _ _)
  exact ha.nothing_runs_closed (recordFault_head_selftest _ _ (h hW.1 hW.2))

theorem rotationRequest_head (req : TurretReq) (n : Station) : (rotationRequest req n s).arb = s.arb := by
  unfold rotationRequest
  split
  · rfl
  · split <;> rfl
  · rfl

theorem testRotate_keeps (r : TestRun) (h : W → Account s → s.arb.head = .selftest) : Keeps W s (testRotate r s) := by
  refine Keeps.assuming ?_
  simp only [testRotate]
  split
  · refine (rotationRequest_keeps _ _).trans (testFailed_keeps _ _ _ _ _ fun hW _ => ?_)
    rw [rotationRequest_head]
    exact h hW.1 hW.2
  · exact rotationRequest_keeps _ _

theorem dropLast_keeps : Keeps W s (dropLast s) := keeps_frames fun hf _ => hf

theorem startItem_keeps (r : TestRun) (h : W → Account s → s.arb.head = .selftest) : Keeps W s (startItem r s) := by
  have hrun : Keeps W s { s with selftest := { s.selftest with run := some r } } := keeps_selftest (.inr (.inr h))
  simp only [startItem]
  split
  · exact hrun.trans dropLast_keeps
  · exact hrun.trans dropLast_keeps
  · exact hrun.trans keeps_free
  · exact hrun.trans keeps_free
  · refine Keeps.assuming ?_
    exact (hrun.mono And.left).trans (testRotate_keeps r fun hW _ => h hW.1 hW.2)

theorem itemPassed_keeps (r : TestRun) (h : W → Account s → s.arb.head = .selftest) : Keeps W s (itemPassed r s) := by
  unfold itemPassed
  split
  · exact startItem_keeps _ h
  · exact testPassed_keeps _ h

/-- A test runs with the head in SELFTEST. -/
theorem Account.selftest_of_run (h : Account s) {r : TestRun} (hr : s.selftest.run = some r) :
    s.arb.head = .selftest := h.testing.resolve_left (by simp [hr])

theorem testTurretParked_keeps : Keeps W s (testTurretParked s) := by
  unfold testTurretParked
  split
  next r hr =>
    split
    · exact itemPassed_keeps r fun _ ha => ha.selftest_of_run hr
    · dsimp only
      refine Keeps.trans (keeps_selftest (.inr (.inr fun _ ha => ha.selftest_of_run hr))) (testRotate_keeps _ fun _ ha => ?_)
      exact ha.selftest_of_run rfl
  next => exact .refl W s

theorem framesPassed_wf (item : TestItem) : (framesPassed item).wf = true := by
  unfold framesPassed
  split
  · exact fillFrames_wf _
  · exact Memory.wf_nil

theorem framesFailed_wf (item : TestItem) (b : BadByte) : (framesFailed item b).wf = true := by
  have haddr : badAddr b + 1 ≤ 2 * Config.bufferBytes := by
    have := frameAddr_lt b.buffer.isLt b.row.isLt b.col.isLt
    simpa [badAddr] using this
  unfold framesFailed
  cases item <;> exact Memory.wf_write (fillFrames_wf _) haddr

theorem setFrames_keeps {m : Memory} (h : m.wf = true) : Keeps W s (setFrames m s) := keeps_frames fun _ _ => h

theorem frameItemEnd_keeps (bad : Option BadByte) (r : TestRun) (h : s.selftest.run = some r) :
    Keeps W s (frameItemEnd bad r s) := by
  unfold frameItemEnd
  split
  · exact (setFrames_keeps (framesPassed_wf _)).trans (itemPassed_keeps r fun _ ha => ha.selftest_of_run h)
  · exact (setFrames_keeps (framesFailed_wf _ _)).trans
      (testFailed_keeps r _ _ _ _ fun _ ha => ha.selftest_of_run h)

theorem judgeReference_keeps (mean depth : Int) : Keeps W s (judgeReference mean depth s) := by
  unfold judgeReference
  split
  next r hr =>
    split
    · extract_lets code
      split
      · exact itemPassed_keeps r fun _ ha => ha.selftest_of_run hr
      · exact testFailed_keeps r _ _ _ _ fun _ ha => ha.selftest_of_run hr
    · exact .refl W s
  next => exact .refl W s

theorem referenceRoundEnd_keeps (codes : List Word16) (d : Word16) : Keeps W s (referenceRoundEnd codes d s) := by
  unfold referenceRoundEnd
  split
  · exact nextRound_keeps.trans (judgeReference_keeps _ _)
  · exact .refl W s

theorem abandonMotion_keeps : Keeps W s (abandonMotion s) := by
  unfold abandonMotion
  split
  · exact Keeps.trans (t := setTurret .unknown s.turret.lastSub s) (keeps_turret fun h => nomatch h)
      (turretAtRest_keeps rfl)
  · exact .refl W s

theorem abandonReference_keeps : Keeps W s (abandonReference s) := by
  unfold abandonReference
  split <;> exact keeps_free

theorem setFrames_keeps_counted {m : Memory} {n : Nat} (h : m.wf = true) :
    Keeps W s { setFrames m s with freeCount := n } := (setFrames_keeps h).trans keeps_free

theorem abandonFrames_keeps (item : TestItem) : Keeps W s (abandonFrames item s) := by
  unfold abandonFrames
  exact setFrames_keeps_counted (fillFrames_wf _)

theorem abandonItem_keeps (item : TestItem) : Keeps W s (abandonItem item s) := by
  cases item with
  | pattern => exact abandonFrames_keeps _
  | address => exact abandonFrames_keeps _
  | force => exact abandonReference_keeps
  | depth => exact abandonReference_keeps
  | turret => exact abandonMotion_keeps

theorem abandonTest_keeps (h : s.arb.head = .selftest) : Keeps W s (abandonTest s) := by
  refine Keeps.assuming ?_
  have hidle : W ∧ Account s → s.cycle.state = .idle := fun hW => hW.2.cycle_idle (by simp [h])
  unfold abandonTest
  split
  · refine Keeps.trans (((abandonItem_keeps _).trans (closeTest_keeps _)).trans (haltHead_keeps fun hW ha => ?_))
      (answer_keeps _ _)
    exact ha.nothing_runs_closed (by rw [abandonItem_frame _ (hidle hW)]; exact h)
  next hnone => exact haltHead_keeps fun hW ha => ⟨hidle hW, ha.granted_none (by simp [h]), hnone⟩

/-! ## Grants -/

theorem grantArb_keeps_but_account (i : Handle) (p : Port) (b r : Bool) :
    Keeps False s { s with arb := grantArb i p b r s.arb } :=
  keeps_arb (fun h => by
      simp only [grantArb]
      split
      · exact moveLast_perm h
      · exact .refl _)
    (fun _ => by cases b <;> simp [State.burstWf, grantArb]) (fun _ => .inr rfl) (fun _ h => nomatch h) False.elim

/-- Marking the oldest PENDING point of a slot. -/
theorem markGranted_cases (i : Slot) (ps : List Point) :
    (markGranted i ps = ps ∧ ∀ p ∈ ps, ¬ (p.slot = i ∧ p.state = .pending)) ∨
    ∃ a p b, ps = a ++ p :: b ∧ (∀ q ∈ a, ¬ (q.slot = i ∧ q.state = .pending)) ∧ p.slot = i ∧ p.state = .pending ∧
      markGranted i ps = a ++ { p with state := .granted } :: b := by
  induction ps with
  | nil => exact .inl ⟨rfl, by simp⟩
  | cons p ps ih =>
    by_cases hp : p.slot = i ∧ p.state = .pending
    · exact .inr ⟨[], p, ps, rfl, by simp, hp.1, hp.2, by simp [markGranted, hp.1, hp.2]⟩
    · have hcons : markGranted i (p :: ps) = p :: markGranted i ps := by
        simp only [markGranted, Bool.and_eq_true, decide_eq_true_eq, if_neg hp]
      rw [hcons]
      rcases ih with ⟨heq, hnone⟩ | ⟨a, q, b, rfl, ha, hq, hst, heq⟩
      · refine .inl ⟨by rw [heq], fun q hq => ?_⟩
        rcases List.mem_cons.mp hq with rfl | hq
        · exact hp
        · exact hnone q hq
      · refine .inr ⟨p :: a, q, b, rfl, fun r hr => ?_, hq, hst, by rw [heq]; rfl⟩
        rcases List.mem_cons.mp hr with rfl | hr
        · exact hp
        · exact ha r hr

/-- A grant with no point granted before leaves one GRANTED point, of its slot. -/
theorem grantedPoints_markGranted {i : Slot} {ps : List Point}
    (hnone : ps.filter (fun p => p.state = .granted) = []) {g : Point}
    (hg : (markGranted i ps).find? (fun p => p.slot = i && p.state = .granted) = some g) :
    (markGranted i ps).filter (fun p => p.state = .granted) = [g] ∧ g.slot = i := by
  have hrest : ∀ p ∈ ps, ¬ p.state = .granted := fun p hp hst => by
    have := List.filter_eq_nil_iff.mp hnone p hp
    simp [hst] at this
  rcases markGranted_cases i ps with ⟨heq, -⟩ | ⟨a, p, b, rfl, -, hslot, -, heq⟩
  · rw [heq] at hg
    have hmem := List.mem_of_find?_eq_some hg
    have hst := List.find?_some hg
    simp only [Bool.and_eq_true, decide_eq_true_eq] at hst
    exact absurd hst.2 (hrest g hmem)
  · rw [heq] at hg ⊢
    have ha : a.find? (fun q => q.slot = i && q.state = .granted) = none := by
      refine List.find?_eq_none.mpr fun q hq => ?_
      simp [hrest q (by simp [hq])]
    rw [List.find?_append, ha, Option.none_or, List.find?_cons_of_pos (by simp [hslot])] at hg
    obtain rfl := Option.some.inj hg
    refine ⟨?_, hslot⟩
    rw [List.filter_append, List.filter_cons_of_pos (by simp)]
    rw [List.filter_eq_nil_iff.mpr fun q hq => by simp [hrest q (by simp [hq])],
      List.filter_eq_nil_iff.mpr fun q hq => by simp [hrest q (by simp [hq])], List.nil_append]

/-- The state of a grant before the station check (R26, R29). -/
def granting (i : Slot) (j : Job) (burst : Bool) (s : State) : State :=
  reserveSlot { s with
    points := markGranted i s.points
    arb := grantArb (s.handle i) j.owner burst s.settings.rotationOn s.arb }

theorem grant_eq (i : Slot) (j : Job) (burst : Bool) (s : State) : grant i j burst s =
    match (granting i j burst s).grantedOf i with
    | some p =>
      if stationCheck j.params ((granting i j burst s).station j.params.indenter)
          ((granting i j burst s).station j.params.objective) then
        enterPositioning (grantedCopy (granting i j burst s) p) j.params (granting i j burst s)
      else configChanged i (granting i j burst s)
    | none => s := rfl

theorem granting_keeps_but_account (i : Slot) (j : Job) (burst : Bool) : Keeps False s (granting i j burst s) :=
  ((grantArb_keeps_but_account (s.handle i) j.owner burst s.settings.rotationOn).trans
    (t := { s with arb := grantArb (s.handle i) j.owner burst s.settings.rotationOn s.arb })
    (keeps_points (ps := markGranted i s.points) False.elim)).trans (keeps_results False.elim)

/-- The account with the point granted and reserved, before the cycle holds it. -/
structure Granting (i : Slot) (p : Point) (s : State) : Prop where
  ledger : s.Ledger 1
  point : s.grantedPoints = [p]
  slot : p.slot = i
  job : (s.slot i).job.isSome = true
  head : s.arb.head = .busy
  cycle : s.cycle.state = .idle ∧ s.cycle.granted = none
  cap : s.cap.state = .idle
  meas : s.meas.run = none
  test : s.selftest.run = none

theorem granting_account {i : Slot} {j : Job} {burst : Bool} {p : Point} (ha : Account s) (hh : s.arb.head = .idle)
    (hj : (s.slot i).job = some j) (hfree : s.results.free ≠ 0) (hp : (granting i j burst s).grantedOf i = some p) :
    Granting i p (granting i j burst s) := by
  have hg := ha.granted_none (by simp [hh])
  have hidle := ha.cycle_idle (by simp [hh])
  have hnone := ha.ungranted hg
  obtain ⟨hpoint, hslot⟩ := grantedPoints_markGranted hnone hp
  obtain ⟨hres, -⟩ := ha.ledger
  rw [hnone] at hres
  refine ⟨⟨congrArg (· + 1) hres, ?_⟩, hpoint, hslot, by
    show (s.slot i).job.isSome = true
    simp [hj], rfl, ⟨hidle, hg⟩, ha.cap_idle (by simp [hidle]), ha.meas_none (by simp [hidle]), ha.test_none (by simp [hh])⟩
  have hroom : s.results.reserved + s.results.records.length < Config.resultSlots := by
    simp only [ResultStore.free, ResultStore.records, List.length_append] at hfree ⊢
    omega
  show s.results.reserved + 1 + s.results.records.length ≤ Config.resultSlots
  omega

/-- POSITIONING takes the granted point into the cycle (R39, R44). -/
theorem enterPositioning_keeps_but_account (g : Granted) (q : JobParams) : Keeps False s (enterPositioning g q s) :=
  ((keeps_cycle (s := s) (c := { s.cycle with state := .positioning, granted := some g, objective := some q.objective })
    False.elim (.inr False.elim)).trans (askStage_keeps _ _ _)).trans (askTurret_keeps _)

theorem enterPositioning_account {i : Slot} {p : Point} {q : JobParams} (h : Granting i p s) :
    Account (enterPositioning (grantedCopy s p) q s) := by
  have hrest : Keeps True (onCycle (fun c => { c with
      state := .positioning, granted := some (grantedCopy s p), objective := some q.objective }) s)
      (enterPositioning (grantedCopy s p) q s) := (askStage_keeps _ _ _).trans (askTurret_keeps _)
  refine hrest.account trivial ⟨?_, fun g hg => ?_, (fun hg => nomatch hg), .inl h.head, .inl h.cap, .inl h.meas, .inl h.test⟩
  · show s.Ledger s.grantedPoints.length
    rw [h.point]
    exact h.ledger
  · obtain rfl := Option.some.inj hg
    refine ⟨?_, ?_, h.head⟩
    · show s.grantedPoints.map Point.slot = [p.slot]
      rw [h.point]; rfl
    · show (s.slot p.slot).job.isSome = true
      rw [h.slot]; exact h.job

theorem releaseSlot_keeps_but_account : Keeps False s (releaseSlot s) :=
  Keeps.trans (t := { s with results := { s.results with reserved := s.results.reserved - 1 } })
    (keeps_results False.elim) noteDecision_keeps

theorem configChanged_keeps_but_account (i : Slot) : Keeps False s (configChanged i s) :=
  ((((((dropGranted_keeps_but_account i).trans releaseSlot_keeps_but_account).trans
    (keeps_updateJob (f := fun j => { j with skipped := j.skipped + 1 }) fun _ => rfl))).trans (skipPending_keeps i)).trans
    (endJob_keeps_but_account i .configChanged)).trans (idleHead_keeps False.elim)

theorem configChanged_account {i : Slot} {p : Point} (h : Granting i p s) : Account (configChanged i s) := by
  have hpoints : (releaseSlot (dropGranted i s)).grantedPoints = [] := by
    rw [releaseSlot_frame]
    show (s.points.filter fun p => !(p.slot = i && p.state = .granted)).filter (fun p => p.state = .granted) = []
    have hpoint : s.points.filter (fun p => p.state = .granted) = [p] := h.point
    rw [List.filter_comm, hpoint]
    have hst : p.state = .granted := by
      have hmem : p ∈ s.points.filter fun p => p.state = .granted := hpoint ▸ List.mem_singleton_self p
      exact of_decide_eq_true (List.mem_filter.mp hmem).2
    simp [h.slot, hst]
  have hreleased : Account (releaseSlot (dropGranted i s)) := by
    refine ⟨?_, fun g hg => ?_, fun _ => hpoints, .inr ?_, .inl ?_, .inl ?_, .inl ?_⟩
    · rw [hpoints, releaseSlot_frame]
      obtain ⟨hres, hroom⟩ := h.ledger
      refine ⟨?_, ?_⟩
      · show s.results.reserved - 1 = s.jobCount + 0
        omega
      · show s.results.reserved - 1 + s.results.records.length ≤ Config.resultSlots
        omega
    · rw [releaseSlot_frame] at hg
      exact nomatch h.cycle.2.symm.trans hg
    · rw [releaseSlot_frame]; exact h.cycle.1
    · rw [releaseSlot_frame]; exact h.cap
    · rw [releaseSlot_frame]; exact h.meas
    · rw [releaseSlot_frame]; exact h.test
  have hframe : ∀ u : State, (endJob i .configChanged (skipPending i u)).cycle = u.cycle ∧
      (endJob i .configChanged (skipPending i u)).selftest = u.selftest := fun u => by
    rw [endJob_frame, skipPending_frame]
    exact ⟨rfl, rfl⟩
  have hskip : ∀ u : State, (skipPending i u).grantedPoints = u.grantedPoints := fun u => by
    rw [State.grantedPoints, skipPending_points]
    exact filter_granted_pending i u.points
  have hupdate : ∀ (f : Job → Job) (u : State), (u.updateJob i f).grantedPoints = u.grantedPoints ∧
      (u.updateJob i f).cycle = u.cycle ∧ (u.updateJob i f).selftest = u.selftest := fun f u => by
    rw [updateJob_frame]; exact ⟨rfl, rfl, rfl⟩
  have hcycle : (releaseSlot (dropGranted i s)).cycle = s.cycle := by rw [releaseSlot_frame]; rfl
  have htest : (releaseSlot (dropGranted i s)).selftest = s.selftest := by rw [releaseSlot_frame]; rfl
  have hrest : Keeps True (releaseSlot (dropGranted i s)) (configChanged i s) := by
    refine (((keeps_updateJob (f := fun j => { j with skipped := j.skipped + 1 }) fun _ => rfl).trans
      (skipPending_keeps i)).trans (endJob_keeps .configChanged fun _ _ q hq => ?_)).trans
      (idleHead_keeps fun _ _ => ?_)
    · rw [hskip, (hupdate _ _).1, hpoints] at hq
      cases hq
    · rw [(hframe _).1, (hframe _).2, (hupdate _ _).2.1, (hupdate _ _).2.2, hcycle, htest]
      exact ⟨h.cycle.1, h.cycle.2, h.test⟩
  exact hrest.account trivial hreleased

theorem grant_keeps {i : Slot} {j : Job} {burst : Bool} (hh : s.arb.head = .idle) (hj : (s.slot i).job = some j)
    (hfree : s.results.free ≠ 0) : Keeps W s (grant i j burst s) := by
  rw [grant_eq]
  split
  next p hp =>
    split
    · exact ((granting_keeps_but_account i j burst).trans (enterPositioning_keeps_but_account _ _)).with_account fun _ ha =>
        enterPositioning_account (granting_account ha hh hj hfree hp)
    · exact ((granting_keeps_but_account i j burst).trans (configChanged_keeps_but_account i)).with_account fun _ ha =>
        configChanged_account (granting_account ha hh hj hfree hp)
  next => exact .refl W s

/-! ## Decisions -/

theorem makeDecision_keeps (h : s.arb.head = .idle) : Keeps W s (makeDecision s) := by
  unfold makeDecision
  split
  · exact keeps_wait h
  · split
    · exact keeps_wait h
    next hfree =>
      split
      · split
        next hj => exact grant_keeps h hj hfree
        next => exact .refl W s
      · exact .refl W s

theorem settleFor_keeps (n : Nat) : Keeps W s (settleFor n s) := by
  induction n generalizing s with
  | zero => exact clearDue_keeps
  | succ n ih =>
    unfold settleFor
    split
    next h =>
      simp only [Bool.and_eq_true, decide_eq_true_eq] at h
      exact (clearDue_keeps.trans (makeDecision_keeps h.2)).trans ih
    next => exact clearDue_keeps

theorem settle_keeps : Keeps W s (settle s) := settleFor_keeps 17

/-! ## STOP, recovery, tests -/

theorem takeStop_keeps : Keeps W s (takeStop s) := by
  have hfault : ∀ V, Keeps V s (recordFault .stop none s) := fun _ => recordFault_keeps _ _
  have hrecorded : recordFault .stop none s = storeFault (faultRecordNow .stop none s) s := rfl
  have hmotion : ∀ h : s.arb.head ≠ .busy ∧ s.arb.head ≠ .selftest,
      Keeps W s (haltHead (abandonMotion (recordFault .stop none s))) := fun h => by
    refine Keeps.assuming ?_
    refine ((hfault _).trans abandonMotion_keeps).trans (haltHead_keeps fun hW _ => ?_)
    obtain ⟨hidle, hgranted, htest⟩ := hW.2.nothing_runs h.1 h.2
    rw [hrecorded, abandonMotion_frame (s := storeFault (faultRecordNow .stop none s) s) hidle]
    exact ⟨hidle, hgranted, htest⟩
  simp only [takeStop]
  split
  next hh => exact (hfault W).trans (haltHead_keeps fun _ ha =>
      ha.nothing_runs (by simp [hrecorded, hh]) (by simp [hrecorded, hh]))
  next => exact (hfault W).trans stopCycle_keeps
  next hh => exact hmotion (by simp [hh])
  next hh => exact hmotion (by simp [hh])
  next hh => exact (hfault W).trans (abandonTest_keeps hh)
  next => exact hfault W

theorem beginRecovery_keeps (h : s.arb.head = .halted) : Keeps W s (beginRecovery s) := by
  refine Keeps.trans (t := { s with arb := { s.arb with head := .recovering } }) ?_ (retractRequest_keeps _)
  refine keeps_head (by decide) (fun hw => .inr ?_) fun _ ha => ?_
  · simpa [State.waitWf, h] using hw
  · obtain ⟨hidle, hgranted, htest⟩ := ha.nothing_runs (by simp [h]) (by simp [h])
    exact ⟨hidle, hgranted, .inl htest⟩

theorem headResumeBody_keeps (blk : List Byte) : Keeps W s (headResumeBody blk s).1 := by
  unfold headResumeBody
  split
  · exact .refl W s
  next h =>
    split
    · exact .refl W s
    · exact beginRecovery_keeps (not_not.mp h)

theorem arbiterHomed_keeps : Keeps W s (arbiterHomed s) := by
  unfold arbiterHomed
  split
  next h => exact idleHead_keeps fun _ ha => ha.nothing_runs (by simp [h]) (by simp [h])
  next h =>
    exact Keeps.trans (t := { s with arb := { s.arb with first := none, last := none } }) keeps_arb_notes
      (idleHead_keeps fun _ ha => ha.nothing_runs (by simp [h]) (by simp [h]))
  next => exact .refl W s

theorem arbSetLastBody_keeps (blk : List Byte) : Keeps W s (arbSetLastBody blk s).1 := by
  unfold arbSetLastBody
  split
  · exact .refl W s
  · exact keeps_rotation

theorem beginTest_keeps (p : Port) (items : List TestItem) (h : s.arb.head = .idle) : Keeps W s (beginTest p items s) := by
  simp only [beginTest]
  split
  · exact .refl W s
  · refine Keeps.trans (t := { s with arb := { s.arb with head := .selftest, wait := .none, testFault := false } })
      (keeps_head (by decide) (fun _ => .inr rfl) fun _ ha => ?_) (startItem_keeps _ fun _ _ => rfl)
    obtain ⟨hidle, hgranted, -⟩ := ha.nothing_runs (by simp [h]) (by simp [h])
    exact ⟨hidle, hgranted, .inr rfl⟩

theorem selftestCommand_keeps (p : Port) : Keeps W s (selftestCommand p s) := by
  simp only [selftestCommand]
  split
  · exact (takeCommand_keeps p).trans (answer_keeps _ _)
  · split
    next h => exact (takeCommand_keeps p).trans (beginTest_keeps p _ h)
    next => exact (takeCommand_keeps p).trans (answer_keeps _ _)

end

end Sys2Proof.Machine
end

section
/-! PROOFS. Every command and every idle millisecond keeps the invariants: the commands and events one by one, then the
step. -/

namespace Sys2Proof.Machine

/-! ## Parameters -/

theorem inRange_eq_some {lo hi v x : Nat} (h : inRange lo hi v = some x) : x = v ∧ lo ≤ v ∧ v ≤ hi := by
  unfold inRange at h
  split at h
  next hv => exact ⟨(Option.some.inj h).symm, hv⟩
  next => cases h

/-- R2, R7: a half-size is at most 480. -/
theorem jobOpenParams_roi {blk : List Byte} {q : JobParams} (h : jobOpenParams blk = some q) : q.roi ≤ 480 := by
  have hbind : ∀ {α β : Type} {x : Option α} {f : α → Option β} {b : β}, (x >>= f) = some b →
      ∃ a, x = some a ∧ f a = some b := Option.bind_eq_some_iff.mp
  unfold jobOpenParams at h
  obtain ⟨kind, -, h⟩ := hbind h
  obtain ⟨priority, -, h⟩ := hbind h
  obtain ⟨burst, -, h⟩ := hbind h
  obtain ⟨indenter, -, h⟩ := hbind h
  obtain ⟨objective, -, h⟩ := hbind h
  obtain ⟨force, -, h⟩ := hbind h
  obtain ⟨loadTime, -, h⟩ := hbind h
  obtain ⟨dwell, -, h⟩ := hbind h
  obtain ⟨approach, -, h⟩ := hbind h
  obtain ⟨travel, -, h⟩ := hbind h
  obtain ⟨roi, hroi, h⟩ := hbind h
  obtain ⟨paired, -, h⟩ := hbind h
  obtain ⟨threshold, -, h⟩ := hbind h
  obtain ⟨useFallback, -, h⟩ := hbind h
  obtain ⟨convert, -, h⟩ := hbind h
  obtain ⟨rfl, -, hle⟩ := inRange_eq_some hroi
  dsimp only at h
  split at h <;> obtain ⟨reference, -, h⟩ := hbind h <;> split at h <;> obtain ⟨tolerance, -, h⟩ := hbind h <;>
    exact Option.some.inj h ▸ hle

theorem findJob_eq_some {s : State} {h : Handle} {i : Slot} {j : Job} (hf : s.findJob h = some (i, j)) :
    (s.slot i).job = some j ∧ handleSlot h = i ∧ (s.slot i).gen = handleGen h := by
  simp only [State.findJob] at hf
  split at hf
  next hgen =>
    obtain ⟨j', hj, heq⟩ := Option.map_eq_some_iff.mp hf
    obtain ⟨rfl, rfl⟩ := Prod.mk.inj heq
    exact ⟨hj, rfl, hgen⟩
  next => cases hf

section
variable {W : Prop} {s : State}

/-! ## Commands on a job -/

theorem withJob_keeps {h : Handle} {act : Slot → Job → State → State × Reply}
    (ha : ∀ i j, (s.slot i).job = some j → Keeps W s (act i j s).1) : Keeps W s (withJob h act s).1 := by
  unfold withJob
  split
  · exact .refl W s
  next hf => exact ha _ _ (findJob_eq_some hf).1

theorem withLiveJob_keeps {p : Port} {h : Handle} {act : Slot → Job → State → State × Reply}
    (ha : ∀ i j, (s.slot i).job = some j → Keeps W s (act i j s).1) : Keeps W s (withLiveJob p h act s).1 := by
  refine withJob_keeps fun i j hj => ?_
  dsimp only
  split
  · split
    · exact .refl W s
    · exact ha i j hj
  · exact .refl W s

theorem setJob_keeps {i : Slot} {j j' : Job} (hj : (s.slot i).job = some j) (hroi : j'.params.roi = j.params.roi) :
    Keeps W s (s.setJob i j') := keeps_setSlot (by simp [hj, hroi])

theorem freeSlot_eq_some {i : Slot} (h : s.freeSlot = some i) : (s.slot i).job = none := by
  simpa using List.find?_some h

/-- R9, R29: a job comes with its reservation. -/
theorem openJob_keeps {p : Port} {q : JobParams} {i : Slot} (hq : q.roi ≤ 480) (hi : (s.slot i).job = none)
    (hfree : s.results.free ≠ 0) : Keeps W s (openJob p q i s) := by
  have hslot : ∀ k, k ≠ i → (openJob p q i s).slot k = s.slot k := fun k hk => slot_setSlot_ne (reserveSlot s) hk _
  have hnew : (openJob p q i s).slot i = { s.slot i with job := some (newJob p q s.openOrder), acc := {} } :=
    slot_setSlot_same (reserveSlot s) i _
  have hbut : Keeps False s (openJob p q i s) := by
    refine Keeps.trans (t := reserveSlot s) (keeps_results False.elim) (Keeps.trans
      (t := (reserveSlot s).setSlot i { s.slot i with job := some (newJob p q s.openOrder), acc := {} })
      (keeps_jobs (fun h k j hj => ?_) False.elim) keeps_free)
    have hj : ((openJob p q i s).slot k).job = some j := hj
    by_cases hk : k = i
    · subst hk
      rw [hnew] at hj
      obtain rfl := Option.some.inj hj
      exact hq
    · rw [hslot k hk] at hj
      exact h k j hj
  refine hbut.with_account fun _ ha => ⟨⟨?_, ?_⟩, fun g hg => ?_, ha.ungranted, ha.working, ha.capturing, ha.measuring,
    ha.testing⟩
  · have hcount : (openJob p q i s).jobCount = s.jobCount + 1 :=
      jobCount_succ hi (by rw [hnew]; rfl) fun k hk => by rw [hslot k hk]
    have hledger := ha.ledger.1
    rw [hcount]
    show s.results.reserved + 1 = s.jobCount + 1 + s.grantedPoints.length
    omega
  · simp only [ResultStore.free] at hfree
    show s.results.reserved + 1 + s.results.records.length ≤ Config.resultSlots
    simp only [ResultStore.records, List.length_append]
    omega
  · obtain ⟨hpoints, hjob, hbusy⟩ := ha.granted g hg
    refine ⟨hpoints, ?_, hbusy⟩
    have hne : g.slot ≠ i := fun heq => by rw [heq, hi] at hjob; cases hjob
    rw [hslot _ hne]
    exact hjob

theorem jobOpenBody_keeps (p : Port) (blk : List Byte) : Keeps W s (jobOpenBody p blk s).1 := by
  unfold jobOpenBody
  split
  · exact .refl W s
  next hq =>
    split
    · exact .refl W s
    · split
      · exact .refl W s
      · split
        · exact .refl W s
        next hi =>
          split
          · exact .refl W s
          next hfree => exact openJob_keeps (jobOpenParams_roi hq) (freeSlot_eq_some hi) hfree

theorem newPoints_pending (i : Slot) (n : Nat) (pts : List (Int × Int × Nat)) :
    ∀ p ∈ newPoints i n pts, p.slot = i ∧ p.state = .pending := by
  induction pts generalizing n with
  | nil => simp [newPoints]
  | cons pt pts ih =>
    intro p hp
    rcases List.mem_cons.mp hp with rfl | hp
    · exact ⟨rfl, rfl⟩
    · exact ih (n + 1) p hp

theorem addPoints_keeps {i : Slot} {j : Job} (more : Bool) (pts : List (Int × Int × Nat))
    (hj : (s.slot i).job = some j) : Keeps W s (addPoints i j more pts s) := by
  refine Keeps.trans (t := { s with points := s.points ++ newPoints i j.nextIndex pts }) (keeps_points fun _ => ?_)
    (setJob_keeps hj rfl)
  have hnew : (newPoints i j.nextIndex pts).filter (fun p => p.state = .granted) = [] :=
    List.filter_eq_nil_iff.mpr fun p hp => by simp [(newPoints_pending i _ _ p hp).2]
  rw [List.filter_append, hnew, List.append_nil]

theorem noteEligible_keeps (i : Slot) (b : Bool) : Keeps W s (noteEligible i b s) := by
  unfold noteEligible
  split
  · exact noteDecision_keeps
  · exact .refl W s

theorem takeBlock_keeps {i : Slot} {j : Job} (more : Bool) (pts : List (Int × Int × Nat))
    (hj : (s.slot i).job = some j) : Keeps W s (takeBlock i j more pts s) := by
  simp only [takeBlock]
  have hadded := (addPoints_keeps (W := W) more pts hj).trans (noteEligible_keeps i (s.eligible i))
  refine hadded.trans ?_
  split
  · exact settle_keeps
  · exact (finishTest_keeps i).trans settle_keeps

theorem pointsAddBody_keeps (p : Port) (blk : List Byte) : Keeps W s (pointsAddBody p blk s).1 := by
  unfold pointsAddBody
  split
  · exact .refl W s
  · refine withLiveJob_keeps fun i j hj => ?_
    unfold pointsAddOn
    split
    · exact .refl W s
    · split
      · exact .refl W s
      · split
        · exact .refl W s
        · exact takeBlock_keeps _ _ hj

theorem endBurst_keeps (h : Handle) : Keeps W s (endBurst h s) := by
  unfold endBurst
  split
  · exact keeps_endBurst
  · exact .refl W s

theorem holdOn_keeps {i : Slot} {j : Job} (hj : (s.slot i).job = some j) : Keeps W s (holdOn i j s).1 :=
  Keeps.trans (t := s.setJob i { j with held := true }) (setJob_keeps hj rfl) (endBurst_keeps _)

theorem unholdOn_keeps {i : Slot} {j : Job} (hj : (s.slot i).job = some j) : Keeps W s (unholdOn i j s).1 :=
  (Keeps.trans (t := s.setJob i { j with held := false }) (setJob_keeps hj rfl) (noteEligible_keeps i _)).trans
    settle_keeps

theorem setPriorityBody_keeps (p : Port) (blk : List Byte) : Keeps W s (setPriorityBody p blk s).1 := by
  unfold setPriorityBody
  split
  · exact .refl W s
  · exact withLiveJob_keeps fun i j hj => setJob_keeps hj rfl

theorem startCancel_keeps (i : Slot) : Keeps W s (startCancel i s) :=
  (skipPending_keeps i).trans (keeps_updateJob (f := fun j => { j with held := false, cancelling := true }) fun _ => rfl)

theorem withdrawOrder_keeps : Keeps W s (withdrawOrder s) := endOrder_keeps .withdrawn

/-! ## The void of a grant (R31, R62) -/

/-- The state in which the voided point is gone and its reservation released, before the finish test. -/
def voidReleased (i : Slot) (s : State) : State :=
  releaseSlot ((dropGranted i (withdrawOrder s)).updateJob i fun j => { j with voided := j.voided + 1 })

/-- The cycle of a voided grant: CLEARING without a point. -/
def voidCleared (s : State) : State := onCycle (fun c => { clearingCycle s.turret s.act c with granted := none }) s

theorem voidGrant_eq (i : Slot) (s : State) :
    voidGrant i s = clearingDone (voidCleared (finishTest i (voidReleased i s))) := rfl

theorem voidReleased_frame (i : Slot) (s : State) : voidReleased i s = { s with
    stage := (withdrawOrder s).stage, points := s.points.filter fun p => !(p.slot = i && p.state = .granted)
    jobs := (voidReleased i s).jobs, arb := { s.arb with due := (voidReleased i s).arb.due }
    results := { s.results with reserved := s.results.reserved - 1 } } := by
  have hw : withdrawOrder s = { s with stage := (withdrawOrder s).stage } := endOrder_frame .withdrawn s
  unfold voidReleased
  rw [releaseSlot_frame, updateJob_frame, hw]
  rfl

theorem isSome_job_updateJob (i : Slot) (f : Job → Job) (s : State) (k : Slot) :
    ((s.updateJob i f).slot k).job.isSome = (s.slot k).job.isSome := by
  cases hj : (s.slot i).job with
  | none => simp only [State.updateJob, hj]
  | some j =>
    rw [updateJob_of_job hj]
    by_cases hk : k = i
    · subst hk; rw [slot_setSlot_same]; simp [hj]
    · rw [slot_setSlot_ne _ hk]

theorem voidReleased_jobCount (i : Slot) (s : State) : (voidReleased i s).jobCount = s.jobCount := by
  refine jobCount_congr fun k => ?_
  have hslot : ∀ u : State, (releaseSlot u).slot k = u.slot k := fun u => by rw [releaseSlot_frame]; rfl
  have hbefore : (dropGranted i (withdrawOrder s)).slot k = s.slot k := by
    show (withdrawOrder s).slot k = s.slot k
    rw [withdrawOrder, endOrder_frame]
    rfl
  rw [voidReleased, hslot, isSome_job_updateJob, hbefore]

theorem voidGrant_keeps_but_account (i : Slot) : Keeps False s (voidGrant i s) := by
  rw [voidGrant_eq]
  refine Keeps.trans ?_ clearingDone_keeps
  refine Keeps.trans ?_ (keeps_cycle False.elim (.inr False.elim))
  refine Keeps.trans ?_ (finishTest_keeps_but_account i)
  exact (((withdrawOrder_keeps.trans (dropGranted_keeps_but_account i)).trans
    (keeps_updateJob (f := fun j => { j with voided := j.voided + 1 }) fun _ => rfl))).trans
      releaseSlot_keeps_but_account

/-- The granted point's reservation is released with it, and the cycle holds no point. -/
theorem voidGrant_account {i : Slot} (ha : Account s) (hg : (s.grantedOf i).isSome = true)
    (hs : s.cycle.state = .positioning) : Account (voidGrant i s) := by
  obtain ⟨p, hp⟩ := Option.isSome_iff_exists.mp hg
  have hpslot := List.find?_some hp
  simp only [Bool.and_eq_true, decide_eq_true_eq] at hpslot
  obtain ⟨hpi, hpst⟩ := hpslot
  have hpmem : p ∈ s.grantedPoints := List.mem_filter.mpr ⟨List.mem_of_find?_eq_some hp, by simpa using hpst⟩
  obtain ⟨g, hgr⟩ : ∃ g, s.cycle.granted = some g := by
    cases hc : s.cycle.granted with
    | some g => exact ⟨g, rfl⟩
    | none => rw [ha.ungranted hc] at hpmem; cases hpmem
  obtain ⟨hslots, -, hbusy⟩ := ha.granted g hgr
  have hall : ∀ q ∈ s.points, q.state = .granted → q.slot = i := fun q hq hst => by
    have hqm : q.slot ∈ s.grantedPoints.map Point.slot :=
      List.mem_map_of_mem (List.mem_filter.mpr ⟨hq, by simpa using hst⟩)
    have hpm : p.slot ∈ s.grantedPoints.map Point.slot := List.mem_map_of_mem hpmem
    rw [hslots, List.mem_singleton] at hqm hpm
    exact hqm.trans (hpm.symm.trans hpi)
  have hlength : s.grantedPoints.length = 1 := by simpa using congrArg List.length hslots
  have hpoints : (voidReleased i s).grantedPoints = [] := by
    rw [voidReleased_frame]
    show (s.points.filter _).filter _ = []
    rw [List.filter_filter]
    refine List.filter_eq_nil_iff.mpr fun q hq => ?_
    have := hall q hq
    simp only [Bool.and_eq_true, decide_eq_true_eq, Bool.not_eq_true', Bool.and_eq_false_iff,
      decide_eq_false_iff_not, not_and, not_or, not_not]
    exact fun hst => ⟨this hst, hst⟩
  have hledger : (voidReleased i s).Ledger 0 := by
    obtain ⟨hres, hroom⟩ := ha.ledger
    rw [hlength] at hres
    refine ⟨?_, ?_⟩
    · rw [voidReleased_jobCount, voidReleased_frame]
      show s.results.reserved - 1 = s.jobCount + 0
      omega
    · rw [voidReleased_frame]
      show s.results.reserved - 1 + s.results.records.length ≤ Config.resultSlots
      omega
  have hcleared : Account (voidCleared (finishTest i (voidReleased i s))) := by
    have hfinish := finishTest_frame i (voidReleased i s)
    have hnone : (finishTest i (voidReleased i s)).grantedPoints = [] := by rw [hfinish]; exact hpoints
    refine ⟨?_, (fun g' hg' => nomatch hg'), fun _ => hnone, .inl ?_, .inl ?_, .inl ?_, .inl ?_⟩
    · show (finishTest i (voidReleased i s)).Ledger (finishTest i (voidReleased i s)).grantedPoints.length
      rw [hnone]
      exact ledger_finishTest hledger i
    · show (finishTest i (voidReleased i s)).arb.head = .busy
      rw [hfinish, voidReleased_frame]; exact hbusy
    · show (finishTest i (voidReleased i s)).cap.state = .idle
      rw [hfinish, voidReleased_frame]; exact ha.cap_idle (by simp [hs])
    · show (finishTest i (voidReleased i s)).meas.run = none
      rw [hfinish, voidReleased_frame]; exact ha.meas_none (by simp [hs])
    · show (finishTest i (voidReleased i s)).selftest.run = none
      rw [hfinish, voidReleased_frame]; exact ha.test_none (by simp [hbusy])
  rw [voidGrant_eq]
  exact (clearingDone_keeps (W := True)).account trivial hcleared

theorem startCancel_frame (i : Slot) (s : State) : startCancel i s = { s with
    jobs := (startCancel i s).jobs, points := s.points.filter fun p => !(p.slot = i && p.state = .pending) } := by
  unfold startCancel
  rw [updateJob_frame, skipPending_frame, skipPending_points]

theorem startCancel_grantedOf (i k : Slot) (s : State) : (startCancel i s).grantedOf k = s.grantedOf k := by
  rw [startCancel_frame]
  show List.find? _ (List.filter _ s.points) = List.find? _ s.points
  rw [List.find?_filter]
  congr 1
  funext p
  cases p.state <;> simp

theorem cancelOn_keeps (i : Slot) (j : Job) : Keeps W s (cancelOn i j s).1 := by
  have hstart : ∀ V, Keeps V s (startCancel i s) := fun _ => startCancel_keeps i
  simp only [cancelOn]
  refine Keeps.trans ?_ settle_keeps
  split
  · exact (hstart W).trans (finishTest_keeps i)
  next hout =>
    have hvoid : (s.grantedOf i).isSome = true ∧ s.cycle.state = .positioning := by
      unfold cancelOutcome at hout
      split at hout
      · cases hout
      next hgr =>
        split at hout
        next hpos => exact ⟨by simpa [Option.isSome_iff_ne_none] using hgr, hpos⟩
        next => cases hout
    refine ((hstart False).trans (voidGrant_keeps_but_account i)).with_account fun _ ha => ?_
    refine voidGrant_account ((hstart True).account trivial ha) ?_ ?_
    · rw [startCancel_grantedOf]; exact hvoid.1
    · rw [startCancel_frame]; exact hvoid.2
  · exact hstart W

/-! ## The calibration writes -/

theorem writeCommand_keeps {α : Type} {params : List Byte → Option α} {effect : α → State → State}
    {lapsed : α → State → Nat} {blk : List Byte} (h : ∀ v, Keeps W s (effect v s)) :
    Keeps W s (writeCommand params effect lapsed blk s).1 := by
  unfold writeCommand
  split
  · exact .refl W s
  · split
    · exact .refl W s
    · exact h _

theorem lapseAll_keeps : Keeps W s (lapseAll s) := (lapseWhere_keeps _).trans (keeps_restartWhere _)

theorem stationWrite_keeps (w : Station × StationRec) : Keeps W s (stationWrite w s) := by
  simp only [stationWrite]
  exact ((Keeps.trans (t := s.setStation w.1 w.2) keeps_free (lapseWhere_keeps _)).trans (keeps_restartWhere _)).trans
    (keeps_restartWhere _)

theorem forceCurveWrite_keeps (w : List (Int × Int) × Int × Nat) : Keeps W s (forceCurveWrite w s) :=
  Keeps.trans (t := { s with cal := { s.cal with curve := w.1, depthZero := w.2.1, depthScale := w.2.2 } })
    keeps_free lapseAll_keeps

theorem settingsWrite_keeps (v : Settings) : Keeps W s (settingsWrite v s) := by
  have hset : Keeps W s { s with settings := v } := keeps_free
  simp only [settingsWrite]
  split
  · exact hset
  · exact hset.trans lapseAll_keeps

/-! ## Results, images, the map -/

theorem resultTakeBody_keeps (p : Port) (blk : List Byte) : Keeps W s (resultTakeBody p blk s).1 := by
  unfold resultTakeBody
  split
  · exact .refl W s
  next r rs hr =>
    refine keeps_results fun _ => ⟨rfl, ?_⟩
    cases p <;> simp_all [ResultStore.records, withPort, forPort] <;> omega

/-- A shorter list of TAKEN records. -/
theorem freeTaken_keeps {p : Port} {rest : List Record} (h : rest.length ≤ (forPort s.results.taken p).length) :
    Keeps W s (freeTaken p rest s) := by
  refine Keeps.trans (t := noteDecision { s with results := { s.results with taken := withPort s.results.taken p rest } })
    (Keeps.trans (t := { s with results := { s.results with taken := withPort s.results.taken p rest } })
      (keeps_results fun _ => ⟨rfl, ?_⟩) noteDecision_keeps) settle_keeps
  cases p <;> simp_all [ResultStore.records, withPort, forPort]

theorem resultFreeBody_keeps (p : Port) (blk : List Byte) : Keeps W s (resultFreeBody p blk s).1 := by
  simp only [resultFreeBody]
  split
  · split
    · exact freeTaken_keeps (List.length_filter_le _ _)
    · exact .refl W s
  · exact .refl W s
  · exact .refl W s

theorem freeOldestBody_keeps (p : Port) (blk : List Byte) : Keeps W s (freeOldestBody p blk s).1 := by
  unfold freeOldestBody
  split
  · exact .refl W s
  next r rs hr => exact freeTaken_keeps (by rw [hr]; simp)

theorem resultReadBody_same (blk : List Byte) : (resultReadBody blk s).1 = s := by
  simp only [resultReadBody]; split <;> rfl

theorem imageReadBody_same (blk : List Byte) : (imageReadBody blk s).1 = s := by
  unfold imageReadBody
  split
  · rfl
  · split
    · split
      · rfl
      · split <;> rfl
    · rfl

theorem mapClearBody_keeps (blk : List Byte) : Keeps W s (mapClearBody blk s).1 := by
  unfold mapClearBody
  split
  · exact .refl W s
  · refine keeps_map fun h => ?_
    simp only [State.mapWf, decide_eq_true_eq] at h
    refine le_trans ?_ h
    unfold mapKeep
    split
    · exact List.length_filter_le _ _
    · exact Nat.zero_le _

theorem stationReadBody_same (blk : List Byte) : (stationReadBody blk s).1 = s := by
  unfold stationReadBody; split <;> rfl

/-! ## The stage, ports -/

theorem stageAnswer_keeps {st : OrderStatus} {report : State → State} {p : Port} {blk : List Byte}
    (h : ∀ u, Keeps W u (report u)) : Keeps W s (stageAnswer st report p blk s).1 := by
  unfold stageAnswer
  split
  · exact .refl W s
  · split
    · exact .refl W s
    · split
      · exact .refl W s
      · exact ((endOrder_keeps st).trans (h _)).trans settle_keeps

theorem portConfigBody_keeps (p : Port) (blk : List Byte) : Keeps W s (portConfigBody p blk s).1 := by
  unfold portConfigBody
  split
  · exact .refl W s
  · dsimp only [setAttnMode]
    split
    · exact .refl W s
    · exact keeps_setMailbox id

theorem controlWrite_keeps (p : Port) (st tag : Byte) (code : Word16) : Keeps W s (controlWrite p st tag code s) := by
  simp only [controlWrite]
  split
  · exact keeps_setMailbox id
  · exact keeps_setMailbox id
  · exact keeps_setMailbox id
  · exact .refl W s

theorem storeAll_block_length (h : HeldWrite) (addr : Nat) (bs : List Byte) :
    (h.storeAll addr bs).block.length = h.block.length := by
  induction bs generalizing h addr with
  | nil => rfl
  | cons b bs ih =>
    rw [HeldWrite.storeAll, ih]
    unfold HeldWrite.store
    split
    · rfl
    · split
      · exact List.length_set
      · rfl

theorem writeWindow_keeps (p : Port) (start : Nat) (data : List Byte) : Keeps W s (writeWindow p start data s) := by
  simp only [writeWindow]
  have hblock : Keeps W s (s.setMailbox p { s.mailbox p with
      block := (HeldWrite.storeAll ⟨(s.mailbox p).block, controlBytes (s.mailbox p), false⟩ start data).block }) :=
    keeps_setMailbox fun h => by
      simp only [Mailbox.sized, storeAll_block_length] at h ⊢
      exact h
  split
  · exact hblock.trans (controlWrite_keeps p _ _ _)
  · exact hblock

theorem spiTransaction_keeps (p : Port) (frame : List Byte) : Keeps W s (spiTransaction p frame s) := by
  unfold spiTransaction
  split
  · split
    · exact writeWindow_keeps p _ _
    · exact .refl W s
  · exact .refl W s

/-! ## The turret's events -/

theorem setMotion_keeps {st : TurretState} {n : Nat} (h : s.turret.moving = true) : Keeps W s (setMotion st n s) :=
  keeps_turret fun _ => .inl h

theorem turretFault_keeps (sub : SubReason) : Keeps W s (turretAtRest (turretFault sub s)) :=
  Keeps.trans (t := turretFault sub s) (keeps_turret fun h => nomatch h) (turretAtRest_keeps rfl)

theorem turretParked_keeps (n : Station) (sub : Option SubReason) :
    Keeps W s (turretAtRest (setTurret (.parked n) sub s)) :=
  Keeps.trans (t := setTurret (.parked n) sub s) (keeps_turret fun h => nomatch h) (turretAtRest_keeps rfl)

theorem rotationReported_keeps (req : TurretReq) (sub : SubReason) (n : Station) :
    Keeps W s (rotationReported req sub n s) := by
  unfold rotationReported
  split
  · exact (recordFault_keeps _ _).trans cycleTurretFailed_keeps
  · split
    next hr => exact testFailed_keeps _ _ _ _ _ fun _ ha => ha.selftest_of_run hr
    next => exact .refl W s

theorem failRotation_keeps (r : Rotation) (sub : SubReason) : Keeps W s (failRotation r sub s) :=
  ((turretFault_keeps sub).trans (rotationReported_keeps _ _ _)).trans settle_keeps

theorem failHoming_keeps (sub : SubReason) : Keeps W s (failHoming sub s) :=
  ((turretFault_keeps sub).trans (recordFault_keeps _ _)).trans settle_keeps

theorem rotationParked_keeps (req : TurretReq) : Keeps W s (rotationParked req s) := by
  unfold rotationParked
  split
  · exact cycleTurretParked_keeps
  · exact testTurretParked_keeps

theorem endMark_keeps (h : Homing) (hm : s.turret.moving = true) : Keeps W s (endMark h s) := by
  simp only [endMark]
  split
  · exact keeps_turret fun _ => .inl hm
  · exact Keeps.trans (t := { s with turret := { s.turret with lastMark := some (s.turret.gated, none) } })
      (keeps_turret .inl) (failHoming_keeps _)

theorem countStep_keeps (sensor : Bool) : Keeps W s (countStep sensor s) := by
  unfold countStep
  split
  next hs => exact setMotion_keeps (by simp [Turret.moving, hs])
  next h hs =>
    have hm : s.turret.moving = true := by simp [Turret.moving, hs]
    unfold homingStep
    split
    · split
      · exact setMotion_keeps hm
      · exact .refl W s
    · split
      · split
        · exact setMotion_keeps hm
        · exact endMark_keeps h hm
      · exact .refl W s
    · exact setMotion_keeps hm
  next => exact .refl W s

theorem stepReported_keeps (r : StepReport) : Keeps W s (stepReported r s) := by
  have hpin : Keeps W s { s with pins := { s.pins with sensor := r.sensor } } := keeps_free
  simp only [stepReported]
  split
  · exact hpin
  · exact hpin.trans (countStep_keeps _)

theorem strokeEnd_keeps (r : Rotation) (clear : Bool) : Keeps W s (strokeEnd r clear s) := by
  have hmark : Keeps W s { s with turret := { s.turret with lastMark := some (s.turret.gated, some r.target) } } :=
    keeps_turret .inl
  simp only [strokeEnd]
  split
  · exact ((hmark.trans (turretParked_keeps r.target _)).trans (rotationParked_keeps _)).trans settle_keeps
  · exact hmark.trans (failRotation_keeps r _)

theorem homingDone_keeps (n : Station) : Keeps W s (homingDone n s) :=
  ((turretParked_keeps n _).trans arbiterHomed_keeps).trans settle_keeps

/-! ## Capture, measurement, reset, time -/

theorem captured_keeps {out : State × Option CapReport} (hk : Keeps W s out.1) (hr : Reports s out)
    (hb : out.2 ≠ none → s.cap.state ≠ .idle) : Keeps W s (captured out) := by
  refine Keeps.assuming ?_
  refine ((hk.mono And.left).trans (cycleCaptured_keeps (fun hne hW _ => ?_) hr.2)).trans settle_keeps
  rw [hr.1]
  exact hW.2.capturing.resolve_left (hb hne)

theorem measurementEnd_keeps : Keeps W s (settle (cycleMeasured (takeMeasurementEnd s).2 (takeMeasurementEnd s).1)) := by
  refine Keeps.assuming ?_
  refine (takeMeasurementEnd_keeps.trans (cycleMeasured_keeps fun hne hW _ => ⟨?_, takeMeasurementEnd_idle s⟩)).trans
    settle_keeps
  rw [takeMeasurementEnd_frame]
  exact hW.2.measuring.resolve_left (takeMeasurementEnd_busy hne)

/-- Settles O60: each invariant is a closed fact of the reset state. -/
theorem resetMeetsTheInvariants : Obligations.ResetMeetsTheInvariants := by
  unfold Obligations.ResetMeetsTheInvariants
  have hsized : ({} : Mailbox).sized = true := by
    simp only [Mailbox.sized, List.length_replicate, decide_true, Bool.and_self]
  have hwindows : State.reset.windowsWf = true := by
    show (({} : Mailbox).sized && ({} : Mailbox).sized && ({} : Mailbox).sized) = true
    rw [hsized]; rfl
  exact ⟨by decide, by decide, by decide, by decide, hwindows, by decide, by decide, by decide, by decide, by decide,
    by decide, by decide⟩

/-- Neither the queue nor the pins nor the model's counter is in the account. -/
theorem Account.outside {q : List Instr} {p : Pins} {n : Nat} (h : Account s) :
    Account { s with pending := q, pins := p, freeCount := n } :=
  ⟨h.1, h.2, h.3, h.4, h.5, h.6, h.7⟩

/-- A state that meets every invariant by itself, with another's queue. -/
theorem keeps_of_invariants {r : State} {p : Pins} {n : Nat} (hrot : r.rotationWf = true) (hmap : r.mapWf = true)
    (hverif : r.verifWf = true) (hburst : r.burstWf = true) (hwin : r.windowsWf = true) (hwait : r.waitWf = true)
    (hhalt : r.haltWf = true) (hlock : r.interlock = true) (hframes : r.framesWf = true) (hroi : r.roiWf = true)
    (hacc : Account r) : Keeps W s { r with pending := s.pending, pins := p, freeCount := n } :=
  ⟨rfl, fun _ => hrot, fun _ => hmap, fun _ => hverif, fun _ => hburst, fun _ => hwin, fun _ => hwait,
    fun _ => hhalt, fun _ => hlock, fun _ _ => hframes, fun _ => hroi, fun _ _ => hacc.outside⟩

theorem cleared_keeps : Keeps W s (cleared s) := by
  obtain ⟨hrot, hmap, hverif, hburst, hwin, hwait, hhalt, -, hlock, hframes, hroi, hacc⟩ := resetMeetsTheInvariants
  exact keeps_of_invariants hrot hmap hverif hburst hwin hwait hhalt hlock hframes hroi ((accountWf_iff _).mp hacc)

theorem afterReset_keeps : Keeps W s (afterReset s) := by
  have hup : Keeps W s (if s.pins.topLimit then becomeRetracted s else s) := by
    split
    · exact becomeRetracted_keeps
    · exact .refl W s
  simp only [afterReset]
  split
  · exact hup.trans takeStop_keeps
  · exact hup

theorem tick_keeps : Keeps W s (tick s) := by
  refine Keeps.trans (t := advanceMeasure (onAct actuatorMs s)) (Keeps.trans (onAct_keeps ?_) advanceMeasure_keeps)
    keeps_free
  unfold actuatorMs
  split
  next h => exact h.symm ▸ rfl
  next h => exact h.symm ▸ rfl
  next => rfl

/-! ## Every command -/

theorem keeps_next {t : State} {f : State} (h : Keeps W s f)
    (he : (Host.Outcome.next f : Host.Outcome State Fault Refusal) = .next t) : Keeps W s t := by
  obtain rfl := Host.Outcome.next.inj he
  exact h

/-- The commands that a mailbox takes. -/
theorem exec_keeps {c : Instr} {t : State} (h : exec c s = .next t) : Keeps W s t := by
  cases c with
  | jobOpen p => exact keeps_next (runCommand_keeps fun blk u => jobOpenBody_keeps p blk) h
  | pointsAdd p => exact keeps_next (runCommand_keeps fun blk u => pointsAddBody_keeps p blk) h
  | jobHold p => exact keeps_next (runCommand_keeps fun blk u => withLiveJob_keeps fun i j hj => holdOn_keeps hj) h
  | jobUnhold p => exact keeps_next (runCommand_keeps fun blk u => withLiveJob_keeps fun i j hj => unholdOn_keeps hj) h
  | jobCancel p => exact keeps_next (runCommand_keeps fun blk u => withLiveJob_keeps fun i j _ => cancelOn_keeps i j) h
  | jobSetPriority p => exact keeps_next (runCommand_keeps fun blk u => setPriorityBody_keeps p blk) h
  | jobQuery p => exact keeps_next (runCommand_keeps fun blk u => withJob_keeps fun i j _ => .refl W u) h
  | resultTake p => exact keeps_next (runCommand_keeps fun blk u => resultTakeBody_keeps p blk) h
  | resultFree p => exact keeps_next (runCommand_keeps fun blk u => resultFreeBody_keeps p blk) h
  | resultFreeOldest p => exact keeps_next (runCommand_keeps fun blk u => freeOldestBody_keeps p blk) h
  | resultRead p => exact keeps_next (runCommand_keeps fun blk u => by rw [resultReadBody_same]; exact .refl W u) h
  | imageRead p => exact keeps_next (runCommand_keeps fun blk u => by rw [imageReadBody_same]; exact .refl W u) h
  | mapClear p => exact keeps_next (runCommand_keeps fun blk u => mapClearBody_keeps blk) h
  | stageSettled p => exact keeps_next (runCommand_keeps fun blk u => stageAnswer_keeps fun _ => cycleStageSettled_keeps) h
  | stageFailed p => exact keeps_next (runCommand_keeps fun blk u => stageAnswer_keeps fun _ => cycleStageFailed_keeps _) h
  | stationWrite p => exact keeps_next (runCommand_keeps fun blk u => writeCommand_keeps stationWrite_keeps) h
  | stationRead p => exact keeps_next (runCommand_keeps fun blk u => by rw [stationReadBody_same]; exact .refl W u) h
  | forceCurveWrite p => exact keeps_next (runCommand_keeps fun blk u => writeCommand_keeps forceCurveWrite_keeps) h
  | forceCurveRead p => exact keeps_next (runCommand_keeps fun blk u => .refl W u) h
  | conversionWrite p => exact keeps_next (runCommand_keeps fun blk u => writeCommand_keeps fun _ => keeps_free) h
  | conversionRead p => exact keeps_next (runCommand_keeps fun blk u => .refl W u) h
  | verifyTableRead p => exact keeps_next (runCommand_keeps fun blk u => .refl W u) h
  | settingsWrite p => exact keeps_next (runCommand_keeps fun blk u => writeCommand_keeps settingsWrite_keeps) h
  | settingsRead p => exact keeps_next (runCommand_keeps fun blk u => .refl W u) h
  | headStop p => exact keeps_next ((runCommand_keeps fun blk u => takeStop_keeps).trans settle_keeps) h
  | headResume p => exact keeps_next ((runCommand_keeps fun blk u => headResumeBody_keeps blk).trans settle_keeps) h
  | arbSetLast p => exact keeps_next (runCommand_keeps fun blk u => arbSetLastBody_keeps blk) h
  | selftest p =>
    refine keeps_next ?_ h
    split
    · exact (selftestCommand_keeps p).trans settle_keeps
    · exact .refl W s
  | portConfig p => exact keeps_next (runCommand_keeps fun blk u => portConfigBody_keeps p blk) h
  | badCommand p =>
    simp only [exec, execBadCommand] at h
    split at h
    · exact keeps_next ((takeCommand_keeps p).trans (answer_keeps p _)) h
    · exact keeps_next (.refl W s) h
  | post p tag code => exact keeps_next (controlWrite_keeps p _ _ _) h
  | withdraw p =>
    refine keeps_next ?_ h
    split
    · exact controlWrite_keeps p _ _ _
    · exact .refl W s
  | acknowledge p => exact keeps_next (controlWrite_keeps p _ _ _) h
  | controlWriteIgnored p st tag code => exact keeps_next (controlWrite_keeps p _ _ _) h
  | windowWrite p frame => exact keeps_next ((spiTransaction_keeps p frame).trans keeps_free) h
  | reset => exact keeps_next ((cleared_keeps.trans afterReset_keeps).trans settle_keeps) h
  | stopLineAssert =>
    refine keeps_next ?_ h
    split
    · exact .refl W s
    · exact (Keeps.trans (t := { s with pins := { s.pins with stopLine := true } }) keeps_free takeStop_keeps).trans
        settle_keeps
  | topLimitActive => exact keeps_next (topLimitOn_keeps.trans settle_keeps) h
  | topLimitLost => exact keeps_next (topLimitOff_keeps.trans settle_keeps) h
  | stepReported report => exact keeps_next (stepReported_keeps report) h
  | travelEnd =>
    refine keeps_next ?_ h
    split
    next hs =>
      split
      · exact setMotion_keeps (by simp [Turret.moving, hs])
      · exact .refl W s
    next => exact .refl W s
  | strokeEnd =>
    refine keeps_next ?_ h
    split
    · split
      · split
        · exact strokeEnd_keeps _ _
        · exact .refl W s
      · exact .refl W s
    · exact .refl W s
  | homingPlaced =>
    refine keeps_next ?_ h
    split
    · split
      · split
        · exact homingDone_keeps _
        · exact .refl W s
      · exact .refl W s
    · exact .refl W s
  | noMark =>
    refine keeps_next ?_ h
    split
    · split
      · exact failHoming_keeps _
      · exact .refl W s
    · exact .refl W s
  | rotationTimeout =>
    refine keeps_next ?_ h
    split
    · exact failRotation_keeps _ _
    · exact .refl W s
  | homeTimeout =>
    refine keeps_next ?_ h
    split
    · exact failHoming_keeps _
    · exact .refl W s
  | roundEnd force depth => exact keeps_next ((roundEnd_keeps force depth).trans settle_keeps) h
  | referenceRoundEnd force depth => exact keeps_next ((referenceRoundEnd_keeps force depth).trans settle_keeps) h
  | loadTimeout => exact keeps_next (loadTimeout_keeps.trans settle_keeps) h
  | dwellDone => exact keeps_next (dwellDone_keeps.trans settle_keeps) h
  | stallTimerExpiry => exact keeps_next (stallExpiry_keeps.trans settle_keeps) h
  | exposureEnd => exact keeps_next takeExposureEnd_keeps h
  | pixelValue value => exact keeps_next (takePixel_keeps value) h
  | lineSumWord word => exact keeps_next (takeLineSum_keeps word) h
  | frameEndMarker => exact keeps_next (captured_keeps takeMarker_keeps (takeMarker_reports s) takeMarker_busy) h
  | frameTimeout =>
    exact keeps_next (captured_keeps takeFrameTimeout_keeps (takeFrameTimeout_reports s) takeFrameTimeout_busy) h
  | tailWaitExpiry => exact keeps_next takeTailWait_keeps h
  | measurementEnd => exact keeps_next measurementEnd_keeps h
  | settleTimerExpiry =>
    refine keeps_next ?_ h
    split
    · exact ((endOrder_keeps .expired).trans (cycleStageFailed_keeps _)).trans settle_keeps
    · exact .refl W s
  | framestoreItemEnd bad =>
    refine keeps_next ?_ h
    split
    next hr =>
      split
      · exact (frameItemEnd_keeps bad _ hr).trans settle_keeps
      · exact .refl W s
    next => exact .refl W s
  | attnPulseEnd p =>
    refine keeps_next ?_ h
    split
    · exact keeps_setMailbox id
    · exact .refl W s
  | attnPulseStart p =>
    refine keeps_next ?_ h
    split
    · exact keeps_setMailbox id
    · exact .refl W s
  | stopLineRelease => exact keeps_next keeps_free h

end

end Sys2Proof.Machine
end

section
/-! PROOFS. The spent decision latch (log entry 8), and the statements on what every step keeps (R24, R26, R27, R29, R69, R103,
R166, R177, R187). -/

namespace Sys2Proof.Machine

/-! ## The decision latch -/

theorem clearDue_of_not_due {s : State} (h : s.arb.due = false) : clearDue s = s := by
  rw [clearDue, ← h]

/-- A mailbox command leaves the latch spent when its body does. -/
theorem runCommand_due {code : Word16} {p : Port} {body : List Byte → State → State × Reply} {s : State}
    (hs : s.arb.due = false) (h : ∀ blk u, u.arb.due = false → (body blk u).1.arb.due = false) :
    (runCommand code p body s).arb.due = false := by
  simp only [runCommand]
  split
  · rw [answer_arb]; exact h _ _ hs
  · exact hs

section
variable {s : State} (hs : s.arb.due = false)
include hs

theorem withLiveJob_due {p : Port} {h : Handle} {act : Slot → Job → State → State × Reply}
    (ha : ∀ i j, (act i j s).1.arb.due = false) : (withLiveJob p h act s).1.arb.due = false := by
  unfold withLiveJob withOwnJob withJob
  split
  · exact hs
  · dsimp only
    split
    · split
      · exact hs
      · exact ha _ _
    · exact hs

theorem pointsAddBody_due (p : Port) (blk : List Byte) : (pointsAddBody p blk s).1.arb.due = false := by
  unfold pointsAddBody
  split
  · exact hs
  · refine withLiveJob_due hs fun i j => ?_
    unfold pointsAddOn
    split
    · exact hs
    · split
      · exact hs
      · split
        · exact hs
        · exact settle_due _

theorem jobOpenBody_due (p : Port) (blk : List Byte) : (jobOpenBody p blk s).1.arb.due = false := by
  unfold jobOpenBody
  split
  · exact hs
  · split
    · exact hs
    · split
      · exact hs
      · split
        · exact hs
        · split <;> exact hs

theorem holdOn_due (i : Slot) (j : Job) : (holdOn i j s).1.arb.due = false := by
  dsimp only [holdOn, endBurst]
  split <;> exact hs

theorem setPriorityBody_due (p : Port) (blk : List Byte) : (setPriorityBody p blk s).1.arb.due = false := by
  unfold setPriorityBody
  split
  · exact hs
  · exact withLiveJob_due hs fun i j => hs

theorem jobQuery_due (blk : List Byte) :
    (withJob (handleAt blk) (fun i j s => (s, .ok (queryPayload i j s))) s).1.arb.due = false := by
  unfold withJob
  split <;> exact hs

theorem resultTakeBody_due (p : Port) (blk : List Byte) : (resultTakeBody p blk s).1.arb.due = false := by
  unfold resultTakeBody
  split <;> exact hs

theorem resultFreeBody_due (p : Port) (blk : List Byte) : (resultFreeBody p blk s).1.arb.due = false := by
  simp only [resultFreeBody]
  split
  · split
    · exact settle_due _
    · exact hs
  · exact hs
  · exact hs

theorem freeOldestBody_due (p : Port) (blk : List Byte) : (freeOldestBody p blk s).1.arb.due = false := by
  unfold freeOldestBody
  split
  · exact hs
  · exact settle_due _

theorem mapClearBody_due (blk : List Byte) : (mapClearBody blk s).1.arb.due = false := by
  unfold mapClearBody
  split <;> exact hs

theorem stageAnswer_due (st : OrderStatus) (report : State → State) (p : Port) (blk : List Byte) :
    (stageAnswer st report p blk s).1.arb.due = false := by
  unfold stageAnswer
  split
  · exact hs
  · split
    · exact hs
    · split
      · exact hs
      · exact settle_due _

theorem writeCommand_due {α : Type} {params : List Byte → Option α} {effect : α → State → State}
    {lapsed : α → State → Nat} {blk : List Byte} (h : ∀ v, (effect v s).arb = s.arb) :
    (writeCommand params effect lapsed blk s).1.arb.due = false := by
  unfold writeCommand
  split
  · exact hs
  · split
    · exact hs
    · rw [h]; exact hs

theorem arbSetLastBody_due (blk : List Byte) : (arbSetLastBody blk s).1.arb.due = false := by
  unfold arbSetLastBody
  split <;> exact hs

theorem portConfigBody_due (p : Port) (blk : List Byte) : (portConfigBody p blk s).1.arb.due = false := by
  unfold portConfigBody
  split
  · exact hs
  · dsimp only [setAttnMode]
    split <;> exact hs

omit hs in
theorem controlWrite_arb (p : Port) (st tag : Byte) (code : Word16) (s : State) :
    (controlWrite p st tag code s).arb = s.arb := by
  simp only [controlWrite]
  split <;> rfl

omit hs in
theorem spiTransaction_arb (p : Port) (frame : List Byte) (s : State) : (spiTransaction p frame s).arb = s.arb := by
  unfold spiTransaction
  split
  · split
    · simp only [writeWindow]
      split
      · exact controlWrite_arb p _ _ _ _
      · rfl
    · rfl
  · rfl

theorem stepReported_due (r : StepReport) : (stepReported r s).arb.due = false := by
  simp only [stepReported]
  split
  · exact hs
  · unfold countStep
    split
    · exact hs
    · unfold homingStep
      split
      · split <;> exact hs
      · split
        · split
          · exact hs
          · simp only [endMark]
            split
            · exact hs
            · exact settle_due _
        · exact hs
      · exact hs
    · exact hs

omit hs in
theorem takePixel_arb (v : Nat) (s : State) : (takePixel v s).arb = s.arb := by
  simp only [takePixel]
  split
  · split
    · rfl
    · split <;> rfl
  · rfl

omit hs in
theorem takeLineSum_arb (w : Word16) (s : State) : (takeLineSum w s).arb = s.arb := by
  simp only [takeLineSum]
  split
  · split
    · rfl
    · split
      · rfl
      · simp only [storeLine]
        split <;> rfl
  · rfl

/-- A command with a decision ends with the latch spent; the others do not touch it. -/
theorem exec_due {c : Instr} {t : State} (h : exec c s = .next t) : t.arb.due = false := by
  have hnext : ∀ {u : State}, (Host.Outcome.next u : Host.Outcome State Fault Refusal) = .next t → u.arb.due = false →
      t.arb.due = false := fun he hu => Host.Outcome.next.inj he ▸ hu
  cases c with
  | jobOpen p => exact hnext h (runCommand_due hs fun blk _ hu => jobOpenBody_due hu p blk)
  | pointsAdd p => exact hnext h (runCommand_due hs fun blk _ hu => pointsAddBody_due hu p blk)
  | jobHold p => exact hnext h (runCommand_due hs fun _ _ hu => withLiveJob_due hu fun i j => holdOn_due hu i j)
  | jobUnhold p => exact hnext h (runCommand_due hs fun _ _ hu => withLiveJob_due hu fun _ _ => settle_due _)
  | jobCancel p => exact hnext h (runCommand_due hs fun _ _ hu => withLiveJob_due hu fun _ _ => settle_due _)
  | jobSetPriority p => exact hnext h (runCommand_due hs fun blk _ hu => setPriorityBody_due hu p blk)
  | jobQuery p => exact hnext h (runCommand_due hs fun blk _ hu => jobQuery_due hu blk)
  | resultTake p => exact hnext h (runCommand_due hs fun blk _ hu => resultTakeBody_due hu p blk)
  | resultFree p => exact hnext h (runCommand_due hs fun blk _ hu => resultFreeBody_due hu p blk)
  | resultFreeOldest p => exact hnext h (runCommand_due hs fun blk _ hu => freeOldestBody_due hu p blk)
  | resultRead p => exact hnext h (runCommand_due hs fun blk u hu => by rw [resultReadBody_same]; exact hu)
  | imageRead p => exact hnext h (runCommand_due hs fun blk u hu => by rw [imageReadBody_same]; exact hu)
  | mapClear p => exact hnext h (runCommand_due hs fun blk _ hu => mapClearBody_due hu blk)
  | stageSettled p => exact hnext h (runCommand_due hs fun blk _ hu => stageAnswer_due hu _ _ p blk)
  | stageFailed p => exact hnext h (runCommand_due hs fun blk _ hu => stageAnswer_due hu _ _ p blk)
  | stationWrite p => exact hnext h (runCommand_due hs fun _ _ hu => writeCommand_due hu fun _ => rfl)
  | stationRead p => exact hnext h (runCommand_due hs fun blk u hu => by rw [stationReadBody_same]; exact hu)
  | forceCurveWrite p => exact hnext h (runCommand_due hs fun _ _ hu => writeCommand_due hu fun _ => rfl)
  | forceCurveRead p => exact hnext h (runCommand_due hs fun _ _ hu => hu)
  | conversionWrite p => exact hnext h (runCommand_due hs fun _ _ hu => writeCommand_due hu fun _ => rfl)
  | conversionRead p => exact hnext h (runCommand_due hs fun _ _ hu => hu)
  | verifyTableRead p => exact hnext h (runCommand_due hs fun _ _ hu => hu)
  | settingsWrite p =>
    exact hnext h (runCommand_due hs fun _ _ hu => writeCommand_due hu fun v => by simp only [settingsWrite]; split <;> rfl)
  | settingsRead p => exact hnext h (runCommand_due hs fun _ _ hu => hu)
  | headStop p => exact hnext h (settle_due _)
  | headResume p => exact hnext h (settle_due _)
  | arbSetLast p => exact hnext h (runCommand_due hs fun blk _ hu => arbSetLastBody_due hu blk)
  | selftest p =>
    refine hnext h ?_
    split
    · exact settle_due _
    · exact hs
  | portConfig p => exact hnext h (runCommand_due hs fun blk _ hu => portConfigBody_due hu p blk)
  | badCommand p =>
    simp only [exec, execBadCommand] at h
    split at h
    · exact hnext h (by rw [answer_arb]; exact hs)
    · exact hnext h hs
  | post p tag code => exact hnext h (by rw [controlWrite_arb]; exact hs)
  | withdraw p =>
    refine hnext h ?_
    split
    · rw [controlWrite_arb]; exact hs
    · exact hs
  | acknowledge p => exact hnext h (by rw [controlWrite_arb]; exact hs)
  | controlWriteIgnored p st tag code => exact hnext h (by rw [controlWrite_arb]; exact hs)
  | windowWrite p frame => exact hnext h (by rw [endTransfer_arb, spiTransaction_arb]; exact hs)
  | reset => exact hnext h (settle_due _)
  | stopLineAssert =>
    refine hnext h ?_
    split
    · exact hs
    · exact settle_due _
  | topLimitActive => exact hnext h (settle_due _)
  | topLimitLost => exact hnext h (settle_due _)
  | stepReported report => exact hnext h (stepReported_due hs report)
  | travelEnd =>
    refine hnext h ?_
    split
    · split <;> exact hs
    · exact hs
  | strokeEnd =>
    refine hnext h ?_
    split
    · split
      · split
        · simp only [strokeEnd]
          split <;> exact settle_due _
        · exact hs
      · exact hs
    · exact hs
  | homingPlaced =>
    refine hnext h ?_
    split
    · split
      · split
        · exact settle_due _
        · exact hs
      · exact hs
    · exact hs
  | noMark =>
    refine hnext h ?_
    split
    · split
      · exact settle_due _
      · exact hs
    · exact hs
  | rotationTimeout =>
    refine hnext h ?_
    split
    · exact settle_due _
    · exact hs
  | homeTimeout =>
    refine hnext h ?_
    split
    · exact settle_due _
    · exact hs
  | roundEnd force depth => exact hnext h (settle_due _)
  | referenceRoundEnd force depth => exact hnext h (settle_due _)
  | loadTimeout => exact hnext h (settle_due _)
  | dwellDone => exact hnext h (settle_due _)
  | stallTimerExpiry => exact hnext h (settle_due _)
  | exposureEnd => exact hnext h (by unfold takeExposureEnd; split <;> exact hs)
  | pixelValue value => exact hnext h (by rw [takePixel_arb]; exact hs)
  | lineSumWord word => exact hnext h (by rw [takeLineSum_arb]; exact hs)
  | frameEndMarker => exact hnext h (settle_due _)
  | frameTimeout => exact hnext h (settle_due _)
  | tailWaitExpiry =>
    refine hnext h ?_
    unfold takeTailWait
    split
    · rw [startFirst_frame]; exact hs
    · exact hs
  | measurementEnd => exact hnext h (settle_due _)
  | settleTimerExpiry =>
    refine hnext h ?_
    split
    · exact settle_due _
    · exact hs
  | framestoreItemEnd bad =>
    refine hnext h ?_
    split
    · split
      · exact settle_due _
      · exact hs
    · exact hs
  | attnPulseEnd p =>
    refine hnext h ?_
    split <;> exact hs
  | attnPulseStart p =>
    refine hnext h ?_
    split <;> exact hs
  | stopLineRelease => exact hnext h hs

end

/-! ## The step -/

/-- A step is a millisecond or a command on the queue's rest. -/
theorem step_cases {s t : State} (h : step s = .next t) :
    (s.pending = [] ∧ t = tick s) ∨ ∃ c q, s.pending = c :: q ∧ exec c (s.withPending q) = .next t := by
  unfold step at h
  split at h
  next hq => exact .inl ⟨hq, (Host.Outcome.next.inj h).symm⟩
  next c q hq => exact .inr ⟨c, q, hq, h⟩

theorem advanceMeasure_frame (s : State) : advanceMeasure s = { s with meas := (advanceMeasure s).meas } := by
  unfold advanceMeasure
  split
  · rfl
  · split
    · split <;> rfl
    · rfl

/-- Every invariant but the queue's is kept by a step. -/
theorem step_keeps {s t : State} (h : step s = .next t) : ∃ q, Keeps True (s.withPending q) t := by
  rcases step_cases h with ⟨-, rfl⟩ | ⟨c, q, -, hexec⟩
  · exact ⟨s.pending, tick_keeps⟩
  · exact ⟨q, exec_keeps hexec⟩

theorem step_due {s t : State} (hs : s.arb.due = false) (h : step s = .next t) : t.arb.due = false := by
  rcases step_cases h with ⟨-, rfl⟩ | ⟨c, q, -, hexec⟩
  · simp only [tick]
    rw [advanceMeasure_frame]
    exact hs
  · exact exec_due (s := s.withPending q) hs hexec

/-- Settles O3: no operation writes the queue. -/
theorem commandsLeaveTheQueue : Obligations.CommandsLeaveTheQueue := by
  unfold Obligations.CommandsLeaveTheQueue
  intro c s t h
  exact (exec_keeps (W := True) h).pending

/-- Settles O56: each invariant of the tables is kept by every operation, and the latch is spent by every decision. -/
theorem stepsKeepTheTables : Obligations.StepsKeepTheTables := by
  unfold Obligations.StepsKeepTheTables
  intro s t h
  obtain ⟨q, hk⟩ := step_keeps h
  refine ⟨hk.rotation, hk.map, hk.verif, hk.burst, hk.windows, hk.wait, hk.halt, fun hq => ?_⟩
  have hs : s.arb.due = false := by simpa [State.quiet] using hq
  simpa [State.quiet] using step_due hs h

/-- Settles O57: an actuator leaves RETRACTED only with the turret at rest, and a motion starts only over a RETRACTED one. -/
theorem stepsKeepTheInterlock : Obligations.StepsKeepTheInterlock := by
  unfold Obligations.StepsKeepTheInterlock
  intro s t hs h
  obtain ⟨q, hk⟩ := step_keeps h
  exact hk.interlock hs

/-- Settles O58: rows are stored inside their buffer, since no region of interest is above 480. -/
theorem stepsKeepTheFrameStore : Obligations.StepsKeepTheFrameStore := by
  unfold Obligations.StepsKeepTheFrameStore
  intro s t hframes hroi h
  obtain ⟨q, hk⟩ := step_keeps h
  exact ⟨hk.frames hframes hroi, hk.roi hroi⟩

/-- Settles O59: every record takes the reservation of its job or point, and a grant and a job come with theirs. -/
theorem stepsKeepTheReservations : Obligations.StepsKeepTheReservations := by
  unfold Obligations.StepsKeepTheReservations
  intro s t hs h
  obtain ⟨q, hk⟩ := step_keeps h
  have ha : Account (s.withPending q) := (accountWf_iff (s.withPending q)).mp hs
  exact (accountWf_iff t).mpr (hk.account trivial ha)

end Sys2Proof.Machine
end

section
/-! PROOFS. Commands on the mailbox (R190, R191): a command as one change of the state and one answer, and the statements on
opening, feeding, holding and asking for a job (R6 to R14, R17). -/

namespace Sys2Proof.Machine

/-! ## Taken and answered -/

/-- The ports once a command on port `p` has been answered. -/
def answeredPorts (p : Port) (r : Reply) (s : State) : PerPort Mailbox :=
  (s.setMailbox p (answeredMailbox (s.mailbox p) r)).ports

section
variable {p : Port} {r : Reply} {s u : State} {code : Word16} {body : List Byte → State → State × Reply}

theorem answeredWith_ports : AnsweredWith p r s { u with ports := answeredPorts p r s } :=
  mailbox_setMailbox s p _

theorem othersKept_ports : OthersKept p s { u with ports := answeredPorts p r s } :=
  othersKept_setMailbox p _ s

/-- A command whose body leaves the ports alone: its change, and the answer. -/
theorem runCommand_of_changed (h : s.posted p code = true)
    (hbody : body (s.blockOf p) (takeCommand p s) = ({ u with ports := (takeCommand p s).ports }, r)) :
    runCommand code p body s = { u with ports := answeredPorts p r s } := by
  have hworking : (({ u with ports := (takeCommand p s).ports } : State).mailbox p).state = .working :=
    congrArg Mailbox.state (mailbox_takeCommand p s)
  rw [runCommand_of_posted body h, ← State.blockOf, hbody, answer_of_working r hworking]
  cases p <;> rfl

/-- A command that its body refuses, or answers from the state as it stands. -/
theorem onlyAnswered_of_same (h : s.posted p code = true)
    (hbody : body (s.blockOf p) (takeCommand p s) = (takeCommand p s, r)) :
    ∃ t, (Host.Outcome.next (runCommand code p body s) : Host.Outcome State Fault Refusal) = .next t ∧
      OnlyAnswered p r s t :=
  ⟨_, congrArg _ (runCommand_of_setMailbox (m := s.mailbox p) h hbody), onlyAnswered_setMailbox p r s⟩

end

/-! ## JOB_OPEN (R7 to R9) -/

section
variable {p : Port} {blk : List Byte} {s : State} {q : JobParams} {i : Slot}

theorem openJob_slot_same : (openJob p q i s).slot i =
    { s.slot i with job := some (newJob p q s.openOrder), acc := {} } := slot_setSlot_same (reserveSlot s) i _

theorem openJob_slot_ne {k : Slot} (h : k ≠ i) : (openJob p q i s).slot k = s.slot k :=
  slot_setSlot_ne (reserveSlot s) h _

theorem jobOpenBody_of_none (hq : jobOpenParams blk = none) : jobOpenBody p blk s = (s, refuse .badParam) := by
  simp only [jobOpenBody, hq]

theorem jobOpenBody_of_uncalibrated (hq : jobOpenParams blk = some q) (hc : s.uncalibrated = true) :
    jobOpenBody p blk s = (s, refuse .notCalibrated) := by
  simp only [jobOpenBody, hq, hc, if_true]

section
variable (hq : jobOpenParams blk = some q) (hc : s.uncalibrated = false)
include hq hc

theorem jobOpenBody_of_stations (hst : stationCheck q (s.station q.indenter) (s.station q.objective) = false) :
    jobOpenBody p blk s = (s, refuse .badParam) := by
  simp [jobOpenBody, hq, hc, hst]

variable (hst : stationCheck q (s.station q.indenter) (s.station q.objective) = true)
include hst

theorem jobOpenBody_of_full (hi : s.freeSlot = none) : jobOpenBody p blk s = (s, refuse .tableFull) := by
  simp [jobOpenBody, hq, hc, hst, hi]

theorem jobOpenBody_of_no_result (hi : s.freeSlot = some i) (hf : s.results.free = 0) :
    jobOpenBody p blk s = (s, refuse .resultsFull) := by
  simp [jobOpenBody, hq, hc, hst, hi, hf]

theorem jobOpenBody_opens (hi : s.freeSlot = some i) (hf : s.results.free ≠ 0) :
    jobOpenBody p blk s = (openJob p q i s, .ok (u8 (s.handle i).toNat ++ u32 s.openOrder.toNat)) := by
  simp [jobOpenBody, hq, hc, hst, hi, hf]

end

/-- The lowest free slot: every slot below it has a job. -/
theorem freeSlot_lowest (h : s.freeSlot = some i) {k : Slot} (hk : k < i) : (s.slot k).job ≠ none := by
  intro hnone
  obtain ⟨-, before, after, hsplit, hbefore⟩ := List.find?_eq_some_iff_append.mp h
  have hsorted : (before ++ i :: after).Pairwise (· < ·) := by
    rw [← hsplit]; decide
  have hmem : k ∈ before ++ i :: after := by
    rw [← hsplit]; exact mem_allSlots k
  rcases List.mem_append.mp hmem with hm | hm
  · have := hbefore k hm
    simp [hnone] at this
  · rcases List.mem_cons.mp hm with rfl | hm
    · exact absurd hk (lt_irrefl _)
    · have := (List.pairwise_append.mp hsorted).2.1
      exact absurd (List.rel_of_pairwise_cons this hm) (not_lt.mpr hk.le)

end

/-- Settles O4. -/
theorem jobOpenOpens : Obligations.JobOpenOpens := by
  unfold Obligations.JobOpenOpens
  intro p q i s hp hq hc hst hi hf
  have hbody := jobOpenBody_opens (p := p) (s := takeCommand p s) hq hc hst hi hf
  refine ⟨{ openJob p q i s with ports := _ }, congrArg Host.Outcome.next (runCommand_of_changed hp hbody), rfl, freeSlot_eq_some hi,
    fun k hk => freeSlot_lowest hi hk, ?_, fun k hk => openJob_slot_ne (p := p) (q := q) (s := s) hk, answeredWith_ports, othersKept_ports⟩
  exact openJob_slot_same (p := p) (q := q) (i := i) (s := s)

/-- Settles O5: each refusal leaves the state its check was made in. -/
theorem jobOpenRefusalOrder : Obligations.JobOpenRefusalOrder := by
  unfold Obligations.JobOpenRefusalOrder
  intro p s hp
  have hrefused : ∀ r, jobOpenBody p (s.blockOf p) (takeCommand p s) = (takeCommand p s, refuse r) →
      ∃ t, exec (.jobOpen p) s = .next t ∧ OnlyAnswered p (refuse r) s t := fun r hr => onlyAnswered_of_same hp hr
  cases hq : jobOpenParams (s.blockOf p) with
  | none =>
    obtain ⟨t, ht, honly⟩ := hrefused _ (jobOpenBody_of_none hq)
    exact ⟨t, _, ht, fun _ => rfl, fun _ => (nomatch ·), fun _ => honly⟩
  | some q =>
    cases hc : s.uncalibrated with
    | true =>
      obtain ⟨t, ht, honly⟩ := hrefused _ (jobOpenBody_of_uncalibrated hq hc)
      exact ⟨t, _, ht, (nomatch ·), fun q' _ => ⟨fun _ => rfl, (nomatch ·)⟩, fun _ => honly⟩
    | false =>
      cases hst : stationCheck q (s.station q.indenter) (s.station q.objective) with
      | false =>
        obtain ⟨t, ht, honly⟩ := hrefused _ (jobOpenBody_of_stations hq hc hst)
        refine ⟨t, _, ht, (nomatch ·), fun q' hq' => ⟨(nomatch ·), fun _ => ⟨fun _ => rfl, fun h => ?_⟩⟩,
          fun _ => honly⟩
        obtain rfl := Option.some.inj hq'
        exact nomatch hst.symm.trans h
      | true =>
        cases hi : s.freeSlot with
        | none =>
          obtain ⟨t, ht, honly⟩ := hrefused _ (jobOpenBody_of_full hq hc hst hi)
          refine ⟨t, _, ht, (nomatch ·), fun q' hq' => ⟨(nomatch ·), fun _ => ⟨fun h => ?_, fun _ =>
            ⟨fun _ => rfl, fun h => absurd rfl h⟩⟩⟩, fun _ => honly⟩
          obtain rfl := Option.some.inj hq'
          exact nomatch hst.symm.trans h
        | some i =>
          by_cases hf : s.results.free = 0
          · obtain ⟨t, ht, honly⟩ := hrefused _ (jobOpenBody_of_no_result hq hc hst hi hf)
            refine ⟨t, _, ht, (nomatch ·), fun q' hq' => ⟨(nomatch ·), fun _ => ⟨fun h => ?_, fun _ =>
              ⟨(nomatch ·), fun _ _ => rfl⟩⟩⟩, fun _ => honly⟩
            obtain rfl := Option.some.inj hq'
            exact nomatch hst.symm.trans h
          · refine ⟨_, .badParam, rfl, (nomatch ·), fun q' hq' => ⟨(nomatch ·), fun _ => ⟨fun _ => rfl,
              fun _ => ⟨(nomatch ·), fun _ h => absurd h hf⟩⟩⟩, fun h => ?_⟩
            rcases h with h | ⟨q', hq', h⟩
            · cases h
            · obtain rfl := Option.some.inj hq'
              rcases h with h | h | h | h
              · cases h
              · exact nomatch hst.symm.trans h
              · cases h
              · exact absurd h hf

/-! ## Commands that name a job (R1, R6) -/

section
variable {p : Port} {h : Handle} {act : Slot → Job → State → State × Reply} {s : State} {i : Slot} {j : Job}

theorem withJob_of_none (hf : s.findJob h = none) : withJob h act s = (s, refuse .noSuchJob) := by
  simp only [withJob, hf]

theorem withJob_of_some (hf : s.findJob h = some (i, j)) : withJob h act s = act i j s := by
  simp only [withJob, hf]

theorem withLiveJob_of_none (hf : s.findJob h = none) : withLiveJob p h act s = (s, refuse .noSuchJob) := by
  rw [withLiveJob, withOwnJob, withJob_of_none hf]

theorem withLiveJob_of_other (hf : s.findJob h = some (i, j)) (ho : j.owner ≠ p) :
    withLiveJob p h act s = (s, refuse .notOwner) := by
  rw [withLiveJob, withOwnJob, withJob_of_some hf, if_neg ho]

theorem withLiveJob_of_cancelling (hf : s.findJob h = some (i, j)) (ho : j.owner = p) (hc : j.cancelling = true) :
    withLiveJob p h act s = (s, refuse .wrongState) := by
  rw [withLiveJob, withOwnJob, withJob_of_some hf, if_pos ho, if_pos hc]

theorem withLiveJob_of_live (hf : s.findJob h = some (i, j)) (ho : j.owner = p) (hc : j.cancelling = false) :
    withLiveJob p h act s = act i j s := by
  rw [withLiveJob, withOwnJob, withJob_of_some hf, if_pos ho, if_neg (by simp [hc])]

end

theorem priorityParam_eq_some {blk : List Byte} (h : readU blk 1 1 ≤ 7) : priorityParam blk = some (readU blk 1 1) := by
  simp [priorityParam, byteIn, inRange, h]

theorem priorityParam_eq_none {blk : List Byte} (h : ¬ readU blk 1 1 ≤ 7) : priorityParam blk = none := by
  simp only [priorityParam, byteIn, inRange, Nat.zero_le, true_and, if_neg h]

/-- What the six commands on a job have in common: their parameters, then the job, its owner and its state (R6). -/
structure JobCommand (p : Port) (c : Instr) (code : Word16) (good : Bool) (blk : List Byte) (s : State)
    (body : List Byte → State → State × Reply) : Prop where
  run : exec c s = .next (runCommand code p body s)
  bad : good = false → ∀ u, body blk u = (u, refuse .badParam)
  missing : good = true → ∀ u, u.findJob (handleAt blk) = none → body blk u = (u, refuse .noSuchJob)
  other : good = true → c ≠ .jobQuery p → ∀ u i j, u.findJob (handleAt blk) = some (i, j) → j.owner ≠ p →
    body blk u = (u, refuse .notOwner)
  ending : good = true → c ≠ .jobQuery p → ∀ u i j, u.findJob (handleAt blk) = some (i, j) → j.owner = p →
    j.cancelling = true → body blk u = (u, refuse .wrongState)

/-- A command whose good parameters go to `withLiveJob`. -/
theorem jobCommand_of_live {p : Port} {c : Instr} {code : Word16} {good : Bool} {blk : List Byte} {s : State}
    {body : List Byte → State → State × Reply} {act : Slot → Job → State → State × Reply}
    (hrun : exec c s = .next (runCommand code p body s)) (hbad : good = false → ∀ u, body blk u = (u, refuse .badParam))
    (hgood : good = true → ∀ u, body blk u = withLiveJob p (handleAt blk) act u) : JobCommand p c code good blk s body where
  run := hrun
  bad := hbad
  missing := fun hg u hf => (hgood hg u).trans (withLiveJob_of_none hf)
  other := fun hg _ u _ _ hf ho => (hgood hg u).trans (withLiveJob_of_other hf ho)
  ending := fun hg _ u _ _ hf ho hc => (hgood hg u).trans (withLiveJob_of_cancelling hf ho hc)

theorem jobCommand_cases {p : Port} {c : Instr} {code : Word16} {good : Bool} {s : State}
    (h : (c, code, good) ∈ [(Instr.jobHold p, (0x0103 : Word16), true), (.jobUnhold p, 0x0104, true),
        (.jobCancel p, 0x0105, true), (.jobQuery p, 0x0107, true),
        (.pointsAdd p, 0x0102, (pointsAddParams (s.blockOf p)).isSome),
        (.jobSetPriority p, 0x0106, decide (readU (s.blockOf p) 1 1 ≤ 7))]) :
    ∃ body, JobCommand p c code good (s.blockOf p) s body := by
  simp only [List.mem_cons, Prod.mk.injEq, List.not_mem_nil, or_false] at h
  rcases h with ⟨rfl, rfl, rfl⟩ | ⟨rfl, rfl, rfl⟩ | ⟨rfl, rfl, rfl⟩ | ⟨rfl, rfl, rfl⟩ | ⟨rfl, rfl, rfl⟩ | ⟨rfl, rfl, rfl⟩
  · exact ⟨_, jobCommand_of_live rfl (nomatch ·) fun _ _ => rfl⟩
  · exact ⟨_, jobCommand_of_live rfl (nomatch ·) fun _ _ => rfl⟩
  · exact ⟨_, jobCommand_of_live rfl (nomatch ·) fun _ _ => rfl⟩
  · exact ⟨_, rfl, (nomatch ·), fun _ u hf => withJob_of_none hf, fun _ h => absurd rfl h,
      fun _ h => absurd rfl h⟩
  · cases hq : pointsAddParams (s.blockOf p) with
    | none => exact ⟨_, jobCommand_of_live (act := holdOn) rfl (fun _ u => by simp only [pointsAddBody, hq])
        (nomatch ·)⟩
    | some q => exact ⟨_, jobCommand_of_live (act := pointsAddOn q.1 q.2) rfl (nomatch ·)
        fun _ u => by simp only [pointsAddBody, hq]⟩
  · by_cases hv : readU (s.blockOf p) 1 1 ≤ 7
    · exact ⟨_, jobCommand_of_live (act := setPriorityOn (readU (s.blockOf p) 1 1)) rfl (fun h => by simp [hv] at h)
        fun _ u => by simp only [setPriorityBody, priorityParam_eq_some hv]⟩
    · exact ⟨_, jobCommand_of_live (act := holdOn) rfl
        (fun _ u => by simp only [setPriorityBody, priorityParam_eq_none hv]) (fun h => by simp [hv] at h)⟩

/-! ## POINTS_ADD (R10, R11) -/

section
variable {p : Port} {more : Bool} {pts : List (Int × Int × Nat)} {i : Slot} {j : Job} {s : State}

theorem pointsAddOn_of_closed (h : j.list = .closed) : pointsAddOn more pts i j s = (s, refuse .wrongState) := by
  rw [pointsAddOn, if_pos h]

theorem pointsAddOn_of_many (hl : j.list = .opened) (h : 65535 < j.added + pts.length) :
    pointsAddOn more pts i j s = (s, refuse .badParam) := by
  rw [pointsAddOn, if_neg (by simp [hl]), if_pos h]

section
variable (hl : j.list = .opened) (ha : j.added + pts.length ≤ 65535)
include hl ha

theorem pointsAddOn_of_no_room (h : s.freePoints < pts.length) :
    pointsAddOn more pts i j s = (s, .refused .pointsFull (u16 s.freePoints)) := by
  rw [pointsAddOn, if_neg (by simp [hl]), if_neg (by omega), if_pos h]

theorem pointsAddOn_takes (h : pts.length ≤ s.freePoints) : pointsAddOn more pts i j s =
    (takeBlock i j more pts s, .ok (pointsAddPayload j more pts.length (takeBlock i j more pts s).freePoints)) := by
  rw [pointsAddOn, if_neg (by simp [hl]), if_neg (by omega), if_neg (by omega)]

end

/-- POINTS_ADD on a live job of the caller's. -/
theorem pointsAddBody_of_live {blk : List Byte} (hq : pointsAddParams blk = some (more, pts))
    (hf : s.findJob (handleAt blk) = some (i, j)) (ho : j.owner = p) (hc : j.cancelling = false) :
    pointsAddBody p blk s = pointsAddOn more pts i j s := by
  simp only [pointsAddBody, hq]
  exact withLiveJob_of_live hf ho hc

end

/-! ## Stage answers (R41) -/

section
variable {st : OrderStatus} {report : State → State} {p : Port} {blk : List Byte} {s : State} {o : Order}

theorem stageAnswer_of_port (h : s.settings.stagePort ≠ p) :
    stageAnswer st report p blk s = (s, refuse .notStagePort) := if_pos h

theorem stageAnswer_of_stale (hp : s.settings.stagePort = p) (ho : ∀ o, s.pendingOrder = some o → o.seq ≠ seqParam blk) :
    stageAnswer st report p blk s = (s, .refused .staleOrder (stalePayload s)) := by
  rw [stageAnswer, if_neg (not_not.mpr hp)]
  split
  · rfl
  next o hpo => rw [if_pos (ho o hpo)]

theorem stageAnswer_takes (hp : s.settings.stagePort = p) (ho : s.pendingOrder = some o) (hseq : o.seq = seqParam blk) :
    stageAnswer st report p blk s = (settle (report (endOrder st s)), .ok []) := by
  simp only [stageAnswer, if_neg (not_not.mpr hp), ho, if_neg (not_not.mpr hseq)]

theorem stalePayload_eq (s : State) : stalePayload s = match s.stage.order with
    | some o => u8 o.seq.toNat ++ u8 (match o.status with
        | .pending => 1 | .settled => 2 | .failed => 3 | .expired => 4 | .withdrawn => 5)
    | none => u8 0 ++ u8 0 := by
  cases h : s.stage.order with
  | none => simp only [stalePayload, h, orderStatusCode]
  | some o => simp only [stalePayload, h, orderStatusCode] <;> rfl

end

/-- Settles O6: each refusal is a body that answers from the state it was given. -/
theorem refusalsChangeNothing : Obligations.RefusalsChangeNothing := by
  unfold Obligations.RefusalsChangeNothing
  intro p c code good s
  refine ⟨fun hst hcode => ?_, fun hmem hp => ?_, fun more pts i j hp hq hf ho hc => ?_, fun hmem hp => ?_⟩
  · have hworking : ((takeCommand p s).mailbox p).state = .working := by rw [mailbox_takeCommand]
    have hanswer : answer p (refuse .badCommand) (takeCommand p s) =
        s.setMailbox p (answeredMailbox (s.mailbox p) (refuse .badCommand)) := by
      rw [answer_of_working _ hworking, takeCommand, setMailbox_setMailbox, mailbox_setMailbox]
      rfl
    refine ⟨s.setMailbox p (answeredMailbox (s.mailbox p) (refuse .badCommand)), ?_, onlyAnswered_setMailbox p _ s⟩
    show execBadCommand p s = _
    rw [execBadCommand, if_pos ⟨hst, hcode⟩, hanswer]
  · obtain ⟨body, hcmd⟩ := jobCommand_cases hmem
    rw [hcmd.run]
    refine ⟨fun hg => onlyAnswered_of_same hp (hcmd.bad hg _), fun hg hf => onlyAnswered_of_same hp (hcmd.missing hg _ hf),
      fun i j hg hf hne => ⟨fun ho => onlyAnswered_of_same hp (hcmd.other hg hne _ i j hf ho), fun ho hc =>
        onlyAnswered_of_same hp (hcmd.ending hg hne _ i j hf ho hc)⟩⟩
  · have hlive : pointsAddBody p (s.blockOf p) (takeCommand p s) = pointsAddOn more pts i j (takeCommand p s) :=
      pointsAddBody_of_live hq hf ho hc
    exact ⟨fun hl => onlyAnswered_of_same hp (hlive.trans (pointsAddOn_of_closed hl)),
      fun hl hm => onlyAnswered_of_same hp (hlive.trans (pointsAddOn_of_many hl hm)),
      fun hl hm hr => onlyAnswered_of_same hp (hlive.trans (pointsAddOn_of_no_room hl hm hr))⟩
  · have hstage : ∀ st report, (s.settings.stagePort ≠ p → ∃ t, (Host.Outcome.next (runCommand code p
        (stageAnswer st report p) s) : Host.Outcome State Fault Refusal) = .next t ∧
          OnlyAnswered p (refuse .notStagePort) s t) ∧
        (s.settings.stagePort = p → (∀ o, s.pendingOrder = some o → o.seq ≠ seqParam (s.blockOf p)) →
          ∃ t, (Host.Outcome.next (runCommand code p (stageAnswer st report p) s) : Host.Outcome State Fault Refusal) =
            .next t ∧ OnlyAnswered p (.refused .staleOrder (stalePayload s)) s t) := fun st report =>
      ⟨fun hne => onlyAnswered_of_same hp (stageAnswer_of_port hne),
        fun hport ho => onlyAnswered_of_same hp (stageAnswer_of_stale hport ho)⟩
    rw [stalePayload_eq] at hstage
    simp only [List.mem_cons, Prod.mk.injEq, List.not_mem_nil, or_false] at hmem
    rcases hmem with ⟨rfl, rfl⟩ | ⟨rfl, rfl⟩
    · exact hstage .settled cycleStageSettled
    · exact hstage .failed (cycleStageFailed .stageFailed)

end Sys2Proof.Machine
end

section
/-! PROOFS. Points, holds, priorities and queries (R10 to R14, R17): what a block, a hold and an unhold change. -/

namespace Sys2Proof.Machine

/-! ## The slots after an update -/

section
variable {s : State} {i : Slot} {j : Job} {f : Job → Job}

theorem slot_setJob_same : (s.setJob i j).slot i = { s.slot i with job := some j } := slot_setSlot_same s i _

theorem slot_setJob_ne {k : Slot} (h : k ≠ i) : (s.setJob i j).slot k = s.slot k := slot_setSlot_ne s h _

theorem slot_updateJob_same (hj : (s.slot i).job = some j) :
    (s.updateJob i f).slot i = { s.slot i with job := some (f j) } := by
  rw [updateJob_of_job hj, slot_setSlot_same]

theorem slot_updateJob_ne {k : Slot} (h : k ≠ i) : (s.updateJob i f).slot k = s.slot k := by
  cases hj : (s.slot i).job with
  | none => simp only [State.updateJob, hj]
  | some j => rw [updateJob_of_job hj, slot_setSlot_ne s h]

end

/-! ## A block of points (R11) -/

section
variable {p : Port} {more : Bool} {pts : List (Int × Int × Nat)} {i : Slot} {j : Job} {s : State}

theorem newPoints_eq (i : Slot) (n k : Nat) (pts : List (Int × Int × Nat)) :
    newPoints i (n + k) pts = (pts.zipIdx k).map fun e =>
      { slot := i, index := n + e.2, tag := e.1.2.2, x := e.1.1, y := e.1.2.1, state := .pending } := by
  induction pts generalizing k with
  | nil => rfl
  | cons pt pts ih =>
    rw [newPoints, List.zipIdx_cons, List.map_cons, Nat.add_assoc, ih (k + 1)]

theorem newPoints_length (i : Slot) (n : Nat) (pts : List (Int × Int × Nat)) :
    (newPoints i n pts).length = pts.length := by
  rw [← Nat.add_zero n, newPoints_eq, List.length_map, List.length_zipIdx]

theorem addPoints_pointsOf (i : Slot) : (addPoints i j more pts s).pointsOf i =
    s.pointsOf i ++ newPoints i j.nextIndex pts := by
  show (s.points ++ newPoints i j.nextIndex pts).filter _ = s.points.filter _ ++ _
  have hnew : (newPoints i j.nextIndex pts).filter (fun q => q.slot = i) = newPoints i j.nextIndex pts :=
    List.filter_eq_self.mpr fun q hq => by simp [(newPoints_pending i _ _ q hq).1]
  rw [List.filter_append, hnew]

theorem noteEligible_of_not_idle (b : Bool) (h : s.arb.head ≠ .idle) : noteEligible i b s = s := by
  unfold noteEligible
  split
  · exact noteDecision_of_not_idle h
  · rfl

theorem noteEligible_of_not_eligible (b : Bool) (h : s.eligible i = false) : noteEligible i b s = s := by
  simp [noteEligible, h]

theorem noteEligible_of_before {b : Bool} (hb : b = true) : noteEligible i b s = s := by
  simp [noteEligible, hb]

/-- A job with a point does not finish (R18). -/
theorem finishTest_of_points (h : s.pointsOf i ≠ []) : finishTest i s = s := by
  unfold finishTest
  split
  · rw [if_neg (by simp [h])]
  · rfl

/-- A block that makes no decision event and leaves the job a point, or its list OPEN. -/
theorem takeBlock_of_points (hh : s.arb.head ≠ .idle) (hd : s.arb.due = false)
    (h : more = true ∨ pts ≠ [] ∨ s.pointsOf i ≠ []) : takeBlock i j more pts s = addPoints i j more pts s := by
  have hnote : ∀ b, noteEligible i b (addPoints i j more pts s) = addPoints i j more pts s :=
    fun b => noteEligible_of_not_idle b hh
  have hdue : (addPoints i j more pts s).arb.due = false := hd
  simp only [takeBlock, hnote]
  cases more with
  | true => exact settle_of_not_due hdue
  | false =>
    have hpoints : (addPoints i j false pts s).pointsOf i ≠ [] := by
      rw [addPoints_pointsOf]
      intro hnil
      obtain ⟨hold, hnew⟩ := List.append_eq_nil_iff.mp hnil
      have hlength := newPoints_length i j.nextIndex pts
      rw [hnew] at hlength
      rcases h with h | h | h
      · cases h
      · exact h (List.eq_nil_of_length_eq_zero hlength.symm)
      · exact h hold
    rw [finishTest_of_points hpoints]
    exact settle_of_not_due hdue

theorem addPoints_freePoints : (addPoints i j more pts s).freePoints = 256 - (s.points.length + pts.length) := by
  show 256 - (s.points ++ newPoints i j.nextIndex pts).length = _
  rw [List.length_append, newPoints_length]

end

/-- Settles O7. -/
theorem pointsAddAppends : Obligations.PointsAddAppends := by
  unfold Obligations.PointsAddAppends
  intro p more pts i j s hp hq hf ho hc hl ha hr hh hd hpoints
  have htake : takeBlock i j more pts (takeCommand p s) = addPoints i j more pts (takeCommand p s) :=
    takeBlock_of_points hh hd hpoints
  have hbody : pointsAddBody p (s.blockOf p) (takeCommand p s) = (addPoints i j more pts (takeCommand p s),
      .ok (pointsAddPayload j more pts.length (256 - (s.points.length + pts.length)))) := by
    rw [pointsAddBody_of_live (s := takeCommand p s) hq hf ho hc, pointsAddOn_takes (s := takeCommand p s) hl ha hr, htake, addPoints_freePoints]
    rfl
  have hpayload : pointsAddPayload j more pts.length (256 - (s.points.length + pts.length)) = u16 j.nextIndex ++
      u8 pts.length ++ u16 (256 - (s.points.length + pts.length)) ++ u8 (if more then 0 else 1) := by
    simp only [pointsAddPayload, afterBlock, hl]
    cases more <;> rfl
  rw [hpayload] at hbody
  refine ⟨{ addPoints i j more pts s with ports := _ }, congrArg Host.Outcome.next (runCommand_of_changed hp hbody), rfl, ?_, ?_, fun k hk =>
    slot_setJob_ne hk, answeredWith_ports, othersKept_ports⟩
  · show s.points ++ newPoints i (j.nextIndex + 0) pts = _
    rw [newPoints_eq]
  · refine (slot_setJob_same (s := { s with points := s.points ++ newPoints i j.nextIndex pts })).trans ?_
    simp only [afterBlock, hl]
    rfl

/-! ## Holds and priorities (R13, R14) -/

/-- R26. -/
theorem endBurst_eq (h : Handle) (s : State) : endBurst h s = { s with
    arb := if s.arb.holder = some h then { s.arb with holder := none, burst := 0 } else s.arb } := by
  unfold endBurst
  split <;> rfl

/-- Settles O9: an unhold makes a decision event only for a job that becomes eligible with the head IDLE. -/
theorem holdUnholdPriority : Obligations.HoldUnholdPriority := by
  unfold Obligations.HoldUnholdPriority
  intro p i j s hf ho hc hd
  have hlive : ∀ act : Slot → Job → State → State × Reply,
      withLiveJob p (handleAt (s.blockOf p)) act (takeCommand p s) = act i j (takeCommand p s) :=
    fun act => withLiveJob_of_live hf ho hc
  obtain ⟨hj, -, -⟩ := findJob_eq_some hf
  refine ⟨fun hp => ?_, fun hp hwhen => ?_, fun hp v hv => ?_⟩
  · have hbody : withLiveJob p (handleAt (s.blockOf p)) holdOn (takeCommand p s) = ({ s.setJob i { j with held := true } with
        ports := (takeCommand p s).ports
        arb := if s.arb.holder = some (s.handle i) then { s.arb with holder := none, burst := 0 } else s.arb }, .ok []) := by
      rw [hlive, holdOn, endBurst_eq]
      rfl
    have hrun := runCommand_of_changed (body := fun blk => withLiveJob p (handleAt blk) holdOn)
      (u := { s.setJob i { j with held := true } with
        arb := if s.arb.holder = some (s.handle i) then { s.arb with holder := none, burst := 0 } else s.arb }) hp hbody
    exact ⟨_, congrArg Host.Outcome.next hrun, rfl, slot_setJob_same, fun k hk => slot_setJob_ne hk, rfl, answeredWith_ports, othersKept_ports⟩
  · have hnote : ∀ b, b = (takeCommand p s).eligible i → noteEligible i b ((takeCommand p s).setJob i { j with held := false }) =
        (takeCommand p s).setJob i { j with held := false } := fun b hb => by
      rcases hwhen with hh | hnone | hheld
      · exact noteEligible_of_not_idle b hh
      · refine noteEligible_of_not_eligible b ?_
        have hempty : ((takeCommand p s).setJob i { j with held := false }).pendingOf i = [] := hnone
        simp only [State.eligible, slot_setJob_same, hempty]
        simp
      · have hsame : { j with held := false } = j := by rw [← hheld]
        have helig : ((takeCommand p s).setJob i j).eligible i = s.eligible i := by
          simp only [State.eligible, slot_setJob_same, hj]
          rfl
        rw [hsame]
        have htaken : (takeCommand p s).eligible i = s.eligible i := rfl
        cases hs : s.eligible i with
        | true => exact noteEligible_of_before (hb.trans (htaken.trans hs))
        | false => exact noteEligible_of_not_eligible b (helig.trans hs)
    have hbody : withLiveJob p (handleAt (s.blockOf p)) unholdOn (takeCommand p s) =
        ((takeCommand p s).setJob i { j with held := false }, .ok []) := by
      rw [hlive]
      simp only [unholdOn]
      rw [hnote _ rfl, settle_of_not_due (s := (takeCommand p s).setJob i { j with held := false }) hd]
    exact ⟨{ s.setJob i { j with held := false } with ports := _ }, congrArg Host.Outcome.next (runCommand_of_changed hp hbody), rfl,
      slot_setJob_same, fun k hk => slot_setJob_ne hk, answeredWith_ports, othersKept_ports⟩
  · have hbody : setPriorityBody p (s.blockOf p) (takeCommand p s) =
        ((takeCommand p s).setJob i { j with params := { j.params with priority := v } },
          .ok (u8 j.params.priority ++ u8 v)) := by
      simp only [setPriorityBody, hv, hlive, setPriorityOn]
    exact ⟨{ s.setJob i { j with params := { j.params with priority := v } } with ports := _ },
      congrArg Host.Outcome.next (runCommand_of_changed hp hbody), rfl, slot_setJob_same, fun k hk => slot_setJob_ne hk, answeredWith_ports,
      othersKept_ports⟩

/-! ## JOB_QUERY (R17) -/

@[simp] theorem flagByte_length (b : Bool) : (flagByte b).length = 1 := u8_length _

theorem optBytes_length {α : Type} {n : Nat} {enc : α → List Byte} (h : ∀ a, (enc a).length = n) (o : Option α) :
    (optBytes n enc o).length = 1 + n := by
  cases o with
  | none => simp [optBytes]
  | some a => simp [optBytes, h]

@[simp] theorem optBytes_u8_length (o : Option Nat) : (optBytes 1 u8 o).length = 2 := optBytes_length u8_length o
@[simp] theorem optBytes_u16_length (o : Option Nat) : (optBytes 2 u16 o).length = 3 := optBytes_length u16_length o
@[simp] theorem optBytes_u32_length (o : Option Nat) : (optBytes 4 u32 o).length = 5 := optBytes_length u32_length o

theorem queryPayload_length (i : Slot) (j : Job) (s : State) : (queryPayload i j s).length = 61 := by
  simp [queryPayload, paramBytes]

/-- Settles O12. -/
theorem jobQueryAnswers : Obligations.JobQueryAnswers := by
  unfold Obligations.JobQueryAnswers
  intro p i j s hp hf
  obtain ⟨t, ht, honly⟩ := onlyAnswered_of_same (r := .ok (queryPayload i j s)) hp
    (body := fun blk => withJob (handleAt blk) (fun i j s => (s, .ok (queryPayload i j s)))) (withJob_of_some hf)
  exact ⟨t, ht, honly, queryPayload_length i j s⟩

end Sys2Proof.Machine
end

section
/-! PROOFS. The end of a job within a command (R15, R16, R18, R19, R31, R62): what the end of a job writes, frees and updates,
and the closing and cancelling commands. -/

namespace Sys2Proof.Machine

/-! ## A command that told its own port more than its answer -/

section
variable {p : Port} {r : Reply} {s u : State} {code : Word16} {body : List Byte → State → State × Reply}

/-- An answer to a mailbox that is as the take left it, but for the pulses. -/
theorem answer_told (hmail : { u.mailbox p with pulseActive := false, pulseScheduled := false } =
      { { s.mailbox p with state := .working } with pulseActive := false, pulseScheduled := false }) :
    answer p r u = { u with ports := (answer p r u).ports } ∧ ToldWith p r s (answer p r u) ∧
      ∀ q, q ≠ p → (answer p r u).mailbox q = u.mailbox q := by
  have hstate : (u.mailbox p).state = .working := (Mailbox.mk.inj hmail).1
  obtain ⟨-, htag, hcode, hblock, -, hmode, hprev, -⟩ := Mailbox.mk.inj hmail
  have hbox : (answer p r u).mailbox p = answeredMailbox (u.mailbox p) r := by
    rw [answer_of_working r hstate, mailbox_setMailbox]
  have hresponse : responseBlock (u.mailbox p) r = responseBlock (s.mailbox p) r := by
    simp only [responseBlock, htag, hcode, hprev]
  refine ⟨?_, ?_, fun q hq => ?_⟩
  · rw [answer_of_working r hstate]; rfl
  · rw [ToldWith, hbox]
    refine ⟨answeredMailbox_state _ r, (answeredMailbox_response _ r).trans hresponse, ?_, ?_, ?_, ?_,
      (answeredMailbox_mode _ r).trans hmode⟩ <;> simp only [answeredMailbox, pulsed_prev, pulsed_tag, pulsed_code, pulsed_block]
    · exact hcode
    · exact htag
    · exact hcode
    · exact hblock
  · rw [answer_of_working r hstate, mailbox_setMailbox_ne _ hq]

/-- A body that leaves the caller's mailbox as the take left it, but for the pulses, and the others alone. -/
theorem told_of_body (h : s.posted p code = true) (hbody : body (s.blockOf p) (takeCommand p s) = (u, r))
    (hown : PulsedOnly (takeCommand p s) u) (hothers : ∀ q, q ≠ p → u.mailbox q = s.mailbox q) :
    ∃ t, (Host.Outcome.next (runCommand code p body s) : Host.Outcome State Fault Refusal) = .next t ∧
      t = { u with ports := t.ports } ∧ ToldWith p r s t ∧ OthersKept p s t := by
  have hmail := hown p
  rw [mailbox_takeCommand] at hmail
  obtain ⟨hframe, htold, hkept⟩ := answer_told (r := r) hmail
  have hrun : runCommand code p body s = answer p r u := by
    rw [runCommand_of_posted body h, ← State.blockOf, hbody]
  exact ⟨_, congrArg Host.Outcome.next hrun, hframe, htold, fun q hq => (hkept q hq).trans (hothers q hq)⟩

end

/-! ## The end of a job (R19) -/

section
variable {s : State} {i : Slot} {j : Job} {reason : Reason}

/-- The tables' update at a job's end leaves the job's own slot. -/
theorem jobEndTables_slot_same : (jobEndTables i j (s.slot i).acc reason s).slot i = s.slot i := by
  simp only [jobEndTables]
  split
  · split
    · rfl
    · simp only [offsetCorrection]
      split
      · split
        · rw [slot_setSlot_same, slot_restartWhere]
          split
          · split <;> rfl
          · rfl
        · rfl
      · rfl
    · rfl
  · rfl

theorem endJob_of_job (hj : (s.slot i).job = some j) : endJob i reason s =
    freeJobSlot i (writeRecord (jobEndRecord s i j reason) (jobEndTables i j (s.slot i).acc reason s)) := by
  simp only [endJob, hj]

theorem endJob_results (hj : (s.slot i).job = some j) : (endJob i reason s).results = { s.results with
    reserved := s.results.reserved - 1, counter := s.newRecordId
    untaken := withPort s.results.untaken j.owner (forPort s.results.untaken j.owner ++
      [{ jobEndRecord s i j reason with id := s.newRecordId }]) } := by
  have htables : (jobEndTables i j (s.slot i).acc reason s).results = s.results := by rw [jobEndTables_frame]
  have hid : (jobEndTables i j (s.slot i).acc reason s).newRecordId = s.newRecordId := by
    simp only [State.newRecordId, htables]
  rw [endJob_of_job hj, freeJobSlot_eq]
  show (writeRecord _ _).results = _
  rw [writeRecord_results, htables, hid]
  rfl

theorem endJob_slot_same (hj : (s.slot i).job = some j) :
    (endJob i reason s).slot i = { s.slot i with gen := (s.slot i).gen + 1, job := none } := by
  rw [endJob_of_job hj, slot_freeJobSlot_same, slot_writeRecord, jobEndTables_slot_same]

theorem endJob_slot_ne (hj : (s.slot i).job = some j) {k : Slot} (hk : k ≠ i) :
    (endJob i reason s).slot k = (jobEndTables i j (s.slot i).acc reason s).slot k := by
  rw [endJob_of_job hj, slot_freeJobSlot_ne hk, slot_writeRecord]

theorem endJob_arb (hj : (s.slot i).job = some j) : (endJob i reason s).arb =
    if s.arb.holder = some (s.handle i) then { s.arb with holder := none, burst := 0 } else s.arb := by
  have harb : (writeRecord (jobEndRecord s i j reason) (jobEndTables i j (s.slot i).acc reason s)).arb = s.arb := by
    rw [writeRecord_frame, jobEndTables_frame]
  have hhandle : (writeRecord (jobEndRecord s i j reason) (jobEndTables i j (s.slot i).acc reason s)).handle i =
      s.handle i := by
    rw [State.handle, slot_writeRecord, jobEndTables_slot_same]; rfl
  rw [endJob_of_job hj, freeJobSlot_eq, harb, hhandle]

theorem endJob_cal (hj : (s.slot i).job = some j) :
    (endJob i reason s).cal = (jobEndTables i j (s.slot i).acc reason s).cal := by
  rw [endJob_of_job hj, freeJobSlot_eq, writeRecord_frame]; rfl

theorem endJob_verif (hj : (s.slot i).job = some j) :
    (endJob i reason s).verif = (jobEndTables i j (s.slot i).acc reason s).verif := by
  rw [endJob_of_job hj, freeJobSlot_eq, writeRecord_frame]; rfl

/-- The end of a job pulses its owner's line and no other. -/
theorem endJob_mailbox_ne (hj : (s.slot i).job = some j) {q : Port} (hq : q ≠ j.owner) :
    (endJob i reason s).mailbox q = s.mailbox q := by
  rw [endJob_of_job hj, freeJobSlot_eq]
  show (writeRecord _ _).mailbox q = _
  rw [writeRecord_mailbox_ne (jobEndRecord s i j reason) _ hq, jobEndTables_frame]
  rfl

theorem pulsedOnly_endJob : PulsedOnly s (endJob i reason s) := by
  cases hj : (s.slot i).job with
  | none => rw [show endJob i reason s = s by simp only [endJob, hj]]; exact .refl s
  | some j =>
    rw [endJob_of_job hj]
    refine PulsedOnly.trans (.of_ports (t := jobEndTables i j (s.slot i).acc reason s) ?_)
      (PulsedOnly.trans (pulsedOnly_writeRecord (jobEndRecord s i j reason) _) (.of_ports ?_))
    · rw [jobEndTables_frame]
    · rw [freeJobSlot_eq]; rfl

/-- The finish test of a job without a point whose list is CLOSED or that is CANCELLING (R18). -/
theorem finishTest_ends (hj : (s.slot i).job = some j) (hl : j.list = .closed ∨ j.cancelling = true)
    (hp : s.pointsOf i = []) :
    finishTest i s = endJob i (if j.cancelling then .cancelled else .finished) s := by
  simp only [finishTest, hj]
  rw [if_pos]
  rcases hl with hl | hl <;> simp [hl, hp]

theorem jobEndTables_cancelled (acc : Accum) : jobEndTables i j acc .cancelled s = s := by
  simp only [jobEndTables]; rw [if_neg (by decide)]

end

/-! ## The verification table at the end of a VERIFY job (R180) -/

/-- The entry a full table gives up: a LAPSED one before a VERIFIED one, then the smallest sequence. -/
theorem victim_spec {es : List VerifEntry} {v : VerifEntry} (h : victim es = some v) :
    v ∈ es ∧ ∀ f ∈ es, (v.verified = true → f.verified = true) ∧ (f.verified = v.verified → v.seq.toNat ≤ f.seq.toNat) := by
  induction es generalizing v with
  | nil => cases h
  | cons e es ih =>
    rw [victim] at h
    split at h
    next hnone =>
      obtain rfl := Option.some.inj h
      have hnil : es = [] := by
        cases es with
        | nil => rfl
        | cons f fs =>
          rw [victim] at hnone
          split at hnone
          · cases hnone
          · split at hnone <;> cases hnone
      subst hnil
      simp
    next f hf =>
      obtain ⟨hmem, hleast⟩ := ih hf
      split at h
      next hfirst =>
        obtain rfl := Option.some.inj h
        refine ⟨List.mem_cons_of_mem e hmem, fun g hg => ?_⟩
        rcases List.mem_cons.mp hg with rfl | hg
        · unfold goesFirst at hfirst
          split at hfirst
          next heq => exact ⟨fun hv => heq ▸ hv, fun _ => (of_decide_eq_true hfirst).le⟩
          next hne => exact ⟨fun hv => by simp [hv] at hfirst, fun heq => absurd heq.symm hne⟩
        · exact hleast g hg
      next hfirst =>
        obtain rfl := Option.some.inj h
        have hsame : f.verified = e.verified → e.seq.toNat ≤ f.seq.toNat := fun heq => by
          simp only [goesFirst, heq, if_true, decide_eq_true_eq] at hfirst
          omega
        have hother : f.verified ≠ e.verified → f.verified = true := fun hne => by
          simpa [goesFirst, hne] using hfirst
        refine ⟨List.mem_cons_self, fun g hg => ?_⟩
        rcases List.mem_cons.mp hg with rfl | hg
        · exact ⟨id, fun _ => le_rfl⟩
        · obtain ⟨hgv, hgs⟩ := hleast g hg
          by_cases heq : f.verified = e.verified
          · exact ⟨fun hv => hgv (heq.trans hv), fun hv => (hsame heq).trans (hgs (hv.trans heq.symm))⟩
          · have hf := hother heq
            have he : e.verified = false := by
              cases hev : e.verified with
              | false => rfl
              | true => exact absurd (hf.trans hev.symm) heq
            exact ⟨fun hv => by simp [he] at hv, fun hv => by simp [hgv hf, he] at hv⟩

theorem victim_isSome {es : List VerifEntry} (h : es ≠ []) : ∃ v, victim es = some v := by
  cases es with
  | nil => exact absurd rfl h
  | cons e es =>
    rw [victim]
    split
    · exact ⟨e, rfl⟩
    · split <;> exact ⟨_, rfl⟩

/-- Two entries of one key. -/
def VerifEntry.sameKey (f g : VerifEntry) : Bool := f.station = g.station && f.force = g.force

theorem putVerifEntry_of_key {e : VerifEntry} {es : List VerifEntry} (h : ∃ f ∈ es, f.sameKey e = true) :
    putVerifEntry e es = es.map fun f => if f.sameKey e then e else f := by
  have hany : (es.any fun f => f.station = e.station && f.force = e.force) = true := List.any_eq_true.mpr h
  rw [putVerifEntry, if_pos hany]
  rfl

theorem not_any_sameKey {e : VerifEntry} {es : List VerifEntry} (h : ∀ f ∈ es, f.sameKey e = false) :
    ¬ (es.any fun f => f.station = e.station && f.force = e.force) = true := by
  rw [List.any_eq_true]
  rintro ⟨f, hf, hkey⟩
  have hne := h f hf
  simp only [VerifEntry.sameKey] at hne
  rw [hne] at hkey
  cases hkey

theorem putVerifEntry_of_room {e : VerifEntry} {es : List VerifEntry} (h : ∀ f ∈ es, f.sameKey e = false)
    (hroom : es.length < 12) : putVerifEntry e es = es ++ [e] := by
  have hless : es.length < Config.verifEntries := hroom
  rw [putVerifEntry, if_neg (not_any_sameKey h), if_pos hless]

theorem putVerifEntry_of_full {e : VerifEntry} {es : List VerifEntry} (h : ∀ f ∈ es, f.sameKey e = false)
    (hfull : 12 ≤ es.length) : ∃ v ∈ es, putVerifEntry e es = (es.map fun f => if f.sameKey v then e else f) ∧
      ∀ f ∈ es, (v.verified = true → f.verified = true) ∧ (f.verified = v.verified → v.seq.toNat ≤ f.seq.toNat) := by
  obtain ⟨v, hv⟩ : ∃ v, victim es = some v := victim_isSome (by rintro rfl; simp at hfull)
  obtain ⟨hmem, hleast⟩ := victim_spec hv
  refine ⟨v, hmem, ?_, hleast⟩
  have hnot : ¬ es.length < Config.verifEntries := not_lt.mpr hfull
  rw [putVerifEntry, if_neg (not_any_sameKey h), if_neg hnot, hv]
  rfl

end Sys2Proof.Machine
end

section
/-! PROOFS. POINTS_ADD that closes a job without points (R11, R18, R19, R180, R181), and JOB_CANCEL (R15, R16, R31, R62). -/

namespace Sys2Proof.Machine

/-! ## Closing a job without points -/

section
variable {s : State} {i : Slot} {j : Job}

/-- A job closed without points. -/
def closedJob (j : Job) : Job := { j with list := .closed }

theorem addPoints_nil : addPoints i j false [] s = s.setJob i (closedJob j) := by
  simp only [addPoints, newPoints, List.append_nil]
  rfl

theorem eligible_of_no_points (h : s.pointsOf i = []) : s.eligible i = false := by
  have hnone : s.pendingOf i = [] := by
    refine List.filter_eq_nil_iff.mpr fun q hq => ?_
    have := List.filter_eq_nil_iff.mp h q hq
    simp_all
  unfold State.eligible
  split
  · simp [hnone]
  · rfl

theorem takeBlock_of_empty (hc : j.cancelling = false) (hp : s.pointsOf i = []) (hd : s.arb.due = false) :
    takeBlock i j false [] s = endJob i .finished (s.setJob i (closedJob j)) := by
  have hjob : ((s.setJob i (closedJob j)).slot i).job = some (closedJob j) := by rw [slot_setJob_same]
  have hnone : (s.setJob i (closedJob j)).pointsOf i = [] := hp
  have hend : finishTest i (s.setJob i (closedJob j)) = endJob i .finished (s.setJob i (closedJob j)) := by
    rw [finishTest_ends hjob (.inl rfl) hnone]
    show endJob i (if j.cancelling then .cancelled else .finished) _ = _
    rw [hc]
    rfl
  have hdue : (endJob i .finished (s.setJob i (closedJob j))).arb.due = false := by rw [endJob_frame]; exact hd
  simp only [takeBlock, addPoints_nil]
  rw [noteEligible_of_not_eligible _ (eligible_of_no_points hnone), hend]
  exact settle_of_not_due hdue

/-- The tables' update of a job that is closed now reads what the open job's would. -/
theorem jobEndTables_closedJob (acc : Accum) (u : State) :
    jobEndTables i (closedJob j) acc .finished u = jobEndTables i j acc .finished u := rfl

end

/-! ## What a FINISHED end reports and updates -/

section
variable {s : State} {i : Slot} {j : Job} {acc : Accum}

theorem jobEndTables_verify (h : j.params.kind = .verify) :
    jobEndTables i j acc .finished s = verifyUpdate j.params acc s := by
  simp only [jobEndTables, if_true, h]

theorem jobEndTables_offsetCal (h : j.params.kind = .offsetCal) :
    jobEndTables i j acc .finished s = offsetCorrection i j.params acc s := by
  simp only [jobEndTables, if_true, h]

theorem jobEndTables_verif_of_not_verify (h : j.params.kind ≠ .verify) :
    (jobEndTables i j acc .finished s).verif = s.verif := by
  simp only [jobEndTables]
  split
  · split
    next hk => exact absurd hk h
    next => rw [offsetCorrection_frame]
    next => rfl
  · rfl

theorem jobEndTables_of_not_offsetCal (h : j.params.kind ≠ .offsetCal) :
    jobEndTables i j acc .finished s = { s with verif := (jobEndTables i j acc .finished s).verif } := by
  simp only [jobEndTables]
  split
  · split
    next => rfl
    next hk => exact absurd hk h
    next => rfl
  · rfl

/-- The entry a VERIFY job's end puts into the table (R180). -/
def verifyEntry (p : JobParams) (acc : Accum) (r tol : Nat) (c : Word32) : VerifEntry :=
  { station := p.indenter, force := p.force, verified := verifyVerdict (verifyMean acc r) tol = .passed
    mean := (verifyMean acc r).map Prod.fst, since := 0, seq := c + 1 }

theorem verifyUpdate_verif {p : JobParams} {r tol : Nat} (hr : p.reference = some r) (ht : p.tolerance = some tol) :
    (verifyUpdate p acc s).verif = { counter := s.verif.counter + 1
                                     entries := putVerifEntry (verifyEntry p acc r tol s.verif.counter) s.verif.entries } := by
  simp only [verifyUpdate, hr, ht, Option.getD_some]
  rfl

theorem verifyMean_of_zero {r : Nat} (h : acc.count = 0) : verifyMean acc r = none := if_pos h

theorem verifyMean_of_ne_zero {r : Nat} (h : acc.count ≠ 0) : verifyMean acc r =
    some ((((2 * acc.hardness + acc.count) / (2 * acc.count) : Int)).toNat,
      ((2 * (((((2 * acc.hardness + acc.count) / (2 * acc.count) : Int)) - r).natAbs * 1000 : Int) + r) / (2 * r)).toNat) :=
  if_neg h

theorem offsetMean_of_zero (h : acc.count = 0) : offsetMean acc = none := if_pos h

theorem offsetMean_of_ne_zero (h : acc.count ≠ 0) : offsetMean acc =
    some ((2 * ((2 * acc.x + acc.count) / (2 * acc.count)) + 100) / 200,
      (2 * ((2 * acc.y + acc.count) / (2 * acc.count)) + 100) / 200) := if_neg h

/-- R181: a correction within its bounds, in propositions. -/
theorem correctionFits_iff (o : Objective) (c : Int × Int) : correctionFits o c = true ↔
    -500 ≤ c.1 ∧ c.1 ≤ 500 ∧ -500 ≤ c.2 ∧ c.2 ≤ 500 ∧ -200000 ≤ o.dx + c.1 ∧ o.dx + c.1 ≤ 200000 ∧
      -200000 ≤ o.dy + c.2 ∧ o.dy + c.2 ≤ 200000 := by
  simp [correctionFits, and_assoc]

theorem offsetCorrection_of_none {p : JobParams} (h : offsetMean acc = none) : offsetCorrection i p acc s = s := by
  simp only [offsetCorrection, h]

section
variable {p : JobParams} {o : Objective} {c : Int × Int} (hm : offsetMean acc = some c)
  (ho : s.station p.objective = .objective o)
include hm ho

theorem offsetCorrection_of_unfit (h : correctionFits o c = false) : offsetCorrection i p acc s = s := by
  simp only [offsetCorrection, hm, ho, h]
  rfl

theorem offsetCorrection_of_fit (h : correctionFits o c = true) : offsetCorrection i p acc s =
    State.setSlot (restartWhere (fun q => q.kind = .offsetCal && q.objective = p.objective)
        (s.setStation p.objective (.objective { o with dx := o.dx + c.1, dy := o.dy + c.2 }))) i
      { (restartWhere (fun q => q.kind = .offsetCal && q.objective = p.objective) s).slot i with acc := acc } := by
  simp only [offsetCorrection, hm, ho, h, if_true]
  rfl

end

/-- The kind's own fields of a JOB_END record (R165). -/
theorem jobEndBody_of_not_verify (h : j.params.kind ≠ .verify) :
    (∀ st reason, (jobEndBody j acc st reason).mean = none) ∧ ∀ st reason, (jobEndBody j acc st reason).verdict = none :=
  ⟨fun _ _ => if_neg fun hk => h hk.1, fun _ _ => if_neg fun hk => h hk.1⟩

theorem jobEndBody_of_not_offsetCal (h : j.params.kind ≠ .offsetCal) :
    (∀ st reason, (jobEndBody j acc st reason).correction = none) ∧
      ∀ st reason, (jobEndBody j acc st reason).offVerdict = none :=
  ⟨fun _ _ => if_neg fun hk => h hk.1, fun _ _ => if_neg fun hk => h hk.1⟩

theorem jobEndBody_of_verify {st : StationRec} {r tol : Nat} (h : j.params.kind = .verify)
    (hr : j.params.reference = some r) (ht : j.params.tolerance = some tol) :
    (jobEndBody j acc st .finished).mean = verifyMean acc r ∧
      (jobEndBody j acc st .finished).verdict = some (verifyVerdict (verifyMean acc r) tol) := by
  simp only [jobEndBody, h, hr, ht, Option.getD_some, and_self, if_true]

theorem jobEndBody_of_offsetCal {st : StationRec} (h : j.params.kind = .offsetCal) :
    (jobEndBody j acc st .finished).correction = offsetMean acc ∧
      (jobEndBody j acc st .finished).offVerdict = some (offsetVerdict st (offsetMean acc)) := by
  simp only [jobEndBody, h, and_self, if_true]

theorem verifyEntry_eq (p : JobParams) (acc : Accum) (r tol : Nat) (c : Word32) : verifyEntry p acc r tol c = {
    station := p.indenter, force := p.force
    verified := decide (acc.count ≠ 0 ∧ ((2 * (((((2 * acc.hardness + acc.count) / (2 * acc.count) : Int)) -
      r).natAbs * 1000 : Int) + r) / (2 * r)).toNat ≤ tol)
    mean := if acc.count = 0 then none else some ((2 * acc.hardness + acc.count) / (2 * acc.count) : Int).toNat
    since := 0, seq := c + 1 } := by
  by_cases h0 : acc.count = 0
  · rw [verifyEntry, verifyMean_of_zero h0]
    simp [h0, verifyVerdict]
  · rw [verifyEntry, verifyMean_of_ne_zero h0]
    simp only [verifyVerdict, Option.map_some, ne_eq, h0, not_false_eq_true, true_and]
    split <;> simp_all

theorem station_setStation_same (n : Station) (r : StationRec) : (s.setStation n r).station n = r := by
  simp [State.station, State.setStation]

theorem station_setStation_ne {n k : Station} (h : k ≠ n) (r : StationRec) :
    (s.setStation n r).station k = s.station k := by
  have hval : n.val ≠ k.val := fun heq => h (Fin.ext heq.symm)
  simp [State.station, State.setStation, hval]

end

/-- Settles O8: a block without points that closes the list of a job without points is the job's FINISHED end. -/
theorem closingAnEmptyJobFinishesIt : Obligations.ClosingAnEmptyJobFinishesIt := by
  unfold Obligations.ClosingAnEmptyJobFinishesIt
  intro p i j s hp hq hf ho hc hl hpoints hadded hd acc
  obtain ⟨hj, -, -⟩ := findJob_eq_some hf
  have htake := takeBlock_of_empty (s := takeCommand p s) (j := j) hc hpoints hd
  have hjob : (((takeCommand p s).setJob i (closedJob j)).slot i).job = some (closedJob j) := by rw [slot_setJob_same]
  have hslot : ((takeCommand p s).setJob i (closedJob j)).slot i = { s.slot i with job := some (closedJob j) } :=
    slot_setJob_same
  generalize hu : (takeCommand p s).setJob i (closedJob j) = u at htake hjob hslot
  have hresults : u.results = s.results := by rw [← hu]; rfl
  have hid : u.newRecordId = s.newRecordId := by rw [State.newRecordId, hresults]; rfl
  have hhandle : u.handle i = s.handle i := by rw [State.handle, hslot]; rfl
  have harb : u.arb = s.arb := by rw [← hu]; rfl
  have hcal : u.cal = s.cal := by rw [← hu]; rfl
  have hverif : u.verif = s.verif := by rw [← hu]; rfl
  have hrest : ∀ k, k ≠ i → u.slot k = s.slot k := fun k hk => by rw [← hu, slot_setJob_ne hk]; rfl
  have hacc : (u.slot i).acc = acc := by rw [hslot]
  have hbody : pointsAddBody p (s.blockOf p) (takeCommand p s) = (endJob i .finished u,
      .ok (u16 j.nextIndex ++ u8 0 ++ u16 s.freePoints ++ u8 1)) := by
    rw [pointsAddBody_of_live (s := takeCommand p s) hq hf ho hc,
      pointsAddOn_takes (s := takeCommand p s) (pts := []) hl hadded (Nat.zero_le _), htake]
    have hfree : (endJob i .finished u).freePoints = s.freePoints := by rw [endJob_frame, ← hu]; rfl
    rw [hfree]
    rfl
  have hpulse : PulsedOnly (takeCommand p s) (endJob i .finished u) :=
    (PulsedOnly.of_ports (by rw [← hu]; rfl)).trans pulsedOnly_endJob
  have hothers : ∀ q, q ≠ p → (endJob i .finished u).mailbox q = s.mailbox q := fun q hq => by
    rw [endJob_mailbox_ne hjob (show q ≠ (closedJob j).owner from fun h => hq (h.trans ho)), ← hu]
    exact mailbox_setMailbox_ne s hq _
  obtain ⟨t, hexec, ht, htold, hkept⟩ := told_of_body hp hbody hpulse hothers
  have hts : ∀ k, t.slot k = (endJob i .finished u).slot k := fun k => by rw [ht]; rfl
  have htr : t.results = (endJob i .finished u).results := by rw [ht]
  have htv : t.verif = (jobEndTables i j acc .finished u).verif := by
    rw [ht]; exact (endJob_verif hjob).trans (by rw [hacc, jobEndTables_closedJob])
  have htc : t.cal = (jobEndTables i j acc .finished u).cal := by
    rw [ht]; exact (endJob_cal hjob).trans (by rw [hacc, jobEndTables_closedJob])
  have htne : ∀ k, k ≠ i → t.slot k = (jobEndTables i j acc .finished u).slot k := fun k hk => by
    rw [hts, endJob_slot_ne hjob hk, hacc, jobEndTables_closedJob]
  have hown : (closedJob j).owner = p := ho
  have hstation : u.station j.params.objective = s.station j.params.objective := by rw [State.station, hcal]; rfl
  rw [endJob_results hjob, hresults, hid, hown] at htr
  refine ⟨t, jobEndBody (closedJob j) acc (s.station j.params.objective) .finished, hexec, ?_, ?_, ?_, rfl, rfl, rfl, rfl, rfl,
    rfl, fun q hqp => ?_, ?_, ?_, ?_, ?_, htold, hkept, fun hk => ?_, fun hk => ?_, fun r tol hk hr ht => ?_, fun o hk hso => ?_⟩
  · rw [ht, endJob_frame, ← hu]; rfl
  · rw [hts, endJob_slot_same hjob, hslot]
  · rw [htr]
    show forPort (withPort _ _ _) _ = _
    rw [forPort_withPort, jobEndRecord, hhandle, hacc, ← hstation, hown]
    rfl
  · rw [htr]; exact forPort_withPort_ne _ hqp _
  · rw [htr]
  · rw [htr]
  · rw [htr]
  · rw [ht]; exact (endJob_arb hjob).trans (by rw [hhandle, harb])
  · obtain ⟨hmean, hverdict⟩ := jobEndBody_of_not_verify (j := closedJob j) (acc := acc) hk
    exact ⟨hmean _ _, hverdict _ _, htv.trans ((jobEndTables_verif_of_not_verify hk).trans hverif)⟩
  · obtain ⟨hcorrection, hverdict⟩ := jobEndBody_of_not_offsetCal (j := closedJob j) (acc := acc) hk
    have htables := jobEndTables_of_not_offsetCal (i := i) (acc := acc) (s := u) hk
    refine ⟨hcorrection _ _, hverdict _ _, htc.trans ?_, fun k hki => (htne k hki).trans ?_⟩
    · rw [htables]; exact hcal
    · rw [htables]; exact hrest k hki
  · have hkj : (closedJob j).params.kind = .verify := hk
    obtain ⟨hmean, hverdict⟩ := jobEndBody_of_verify (acc := acc) (st := s.station j.params.objective) hkj hr ht
    rw [jobEndTables_verify hk, verifyUpdate_verif hr ht, hverif] at htv
    have hentry : verifyEntry j.params acc r tol s.verif.counter = {
        station := j.params.indenter, force := j.params.force
        verified := decide (acc.count ≠ 0 ∧ ((2 * (((((2 * acc.hardness + acc.count) / (2 * acc.count) : Int)) -
          r).natAbs * 1000 : Int) + r) / (2 * r)).toNat ≤ tol)
        mean := if acc.count = 0 then none else some ((2 * acc.hardness + acc.count) / (2 * acc.count) : Int).toNat
        since := 0, seq := s.verif.counter + 1 } := verifyEntry_eq _ _ _ _ _
    rw [hentry] at htv
    rw [htv]
    refine ⟨fun h0 => ⟨hmean.trans (verifyMean_of_zero h0), hverdict.trans ?_⟩, fun h0 =>
      ⟨hmean.trans (verifyMean_of_ne_zero h0), hverdict.trans ?_⟩, rfl, putVerifEntry_of_key, putVerifEntry_of_room,
      putVerifEntry_of_full⟩
    · rw [verifyMean_of_zero h0]; rfl
    · rw [verifyMean_of_ne_zero h0]; rfl
  · have hkj : (closedJob j).params.kind = .offsetCal := hk
    obtain ⟨hcorrection, hverdict⟩ := jobEndBody_of_offsetCal (acc := acc) (st := s.station j.params.objective) hkj
    rw [jobEndTables_offsetCal hk] at htc
    have hne : ∀ k, k ≠ i → t.slot k = (offsetCorrection i j.params acc u).slot k := fun k hki => by
      rw [htne k hki, jobEndTables_offsetCal hk]
    have hou : u.station j.params.objective = .objective o := hstation.trans hso
    replace hverdict := hverdict.trans (congrArg (fun st => some (offsetVerdict st (offsetMean acc))) hso)
    have hsame : offsetCorrection i j.params acc u = u → t.cal = s.cal ∧ ∀ k, k ≠ i → t.slot k = s.slot k :=
      fun heq => by
        rw [heq] at htc
        exact ⟨htc.trans hcal, fun k hki => by rw [hne k hki, heq]; exact hrest k hki⟩
    refine ⟨fun h0 => ⟨hcorrection.trans (offsetMean_of_zero h0), hverdict.trans ?_⟩, fun h0 =>
      hcorrection.trans (offsetMean_of_ne_zero h0), fun h0 hunfit => hverdict.trans ?_, fun hwhen => ?_,
      fun h0 hfit => ?_⟩
    · rw [offsetMean_of_zero h0]; rfl
    · rw [← correctionFits_iff, Bool.not_eq_true] at hunfit
      rw [offsetMean_of_ne_zero h0]
      simp only [offsetVerdict, hunfit]
      rfl
    · by_cases h0 : acc.count = 0
      · exact hsame (offsetCorrection_of_none (offsetMean_of_zero h0))
      · have hunfit := hwhen.resolve_left h0
        rw [← correctionFits_iff, Bool.not_eq_true] at hunfit
        exact hsame (offsetCorrection_of_unfit (offsetMean_of_ne_zero h0) hou hunfit)
    · rw [← correctionFits_iff] at hfit
      have happlied := offsetCorrection_of_fit (i := i) (offsetMean_of_ne_zero h0) hou hfit
      have hcalt : t.cal = (s.setStation j.params.objective (.objective { o with
          dx := o.dx + (2 * ((2 * acc.x + acc.count) / (2 * acc.count)) + 100) / 200
          dy := o.dy + (2 * ((2 * acc.y + acc.count) / (2 * acc.count)) + 100) / 200 })).cal := by
        have hset : ∀ x, (u.setStation j.params.objective x).cal = (s.setStation j.params.objective x).cal := fun x => by
          simp only [State.setStation, hcal]
        rw [htc, happlied]
        exact hset _
      have hrestart : ∀ k, k ≠ i → t.slot k =
          (restartWhere (fun q => q.kind = .offsetCal && q.objective = j.params.objective) u).slot k := fun k hki => by
        rw [hne k hki, happlied, slot_setSlot_ne _ hki]; rfl
      refine ⟨?_, by rw [hcalt]; rfl, ?_, fun k hko => ?_, fun k hki hnone => ?_, fun k jk hki hjk => ?_⟩
      · rw [hverdict, offsetMean_of_ne_zero h0]
        simp only [offsetVerdict, hfit, if_true]
      · rw [State.station, hcalt]; exact station_setStation_same _ _
      · rw [State.station, hcalt]; exact station_setStation_ne hko _
      · rw [hrestart k hki, slot_restartWhere, hrest k hki, hnone]
      · rw [hrestart k hki, slot_restartWhere, hrest k hki, hjk]
        simp only [Bool.and_eq_true, decide_eq_true_eq]

end Sys2Proof.Machine
end

section
/-! PROOFS. JOB_CANCEL (R15, R16, R31, R62): a job without a granted point ends at once, a grant in POSITIONING is voided, a
later point runs on. -/

namespace Sys2Proof.Machine

section
variable {s : State} {i : Slot} {j : Job}

/-- A CANCELLED end changes no table (R19). -/
theorem endJob_cancelled_frame (hj : (s.slot i).job = some j) : endJob i .cancelled s = { s with
    ports := (endJob i .cancelled s).ports, jobs := (endJob i .cancelled s).jobs
    results := (endJob i .cancelled s).results, arb := (endJob i .cancelled s).arb } := by
  have hcal : (endJob i .cancelled s).cal = s.cal := by rw [endJob_cal hj, jobEndTables_cancelled]
  have hverif : (endJob i .cancelled s).verif = s.verif := by rw [endJob_verif hj, jobEndTables_cancelled]
  rw [endJob_frame, hcal, hverif]

/-- A job once its cancel has begun: its PENDING points skipped, not held, CANCELLING (R15). -/
def cancelledJob (n : Nat) (j : Job) : Job := { j with held := false, cancelling := true, skipped := j.skipped + n }

theorem startCancel_slot_same (hj : (s.slot i).job = some j) :
    (startCancel i s).slot i = { s.slot i with job := some (cancelledJob (s.pendingOf i).length j) } := by
  have hskip : (skipPending i s).slot i =
      { s.slot i with job := some { j with skipped := j.skipped + (s.pendingOf i).length } } :=
    slot_updateJob_same (s := { s with points := s.points.filter fun p => !(p.slot = i && p.state = .pending) }) hj
  have hjob : ((skipPending i s).slot i).job = some { j with skipped := j.skipped + (s.pendingOf i).length } := by
    rw [hskip]
  rw [startCancel, slot_updateJob_same hjob, hskip]
  rfl

theorem startCancel_jobs (hj : (s.slot i).job = some j) : (startCancel i s).jobs =
    s.jobs.set i { s.slot i with job := some (cancelledJob (s.pendingOf i).length j) } := by
  have hskip : skipPending i s = State.setSlot
      { s with points := s.points.filter fun p => !(p.slot = i && p.state = .pending) } i
      { s.slot i with job := some { j with skipped := j.skipped + (s.pendingOf i).length } } :=
    updateJob_of_job (s := { s with points := s.points.filter fun p => !(p.slot = i && p.state = .pending) }) hj _
  have hslot : (skipPending i s).slot i =
      { s.slot i with job := some { j with skipped := j.skipped + (s.pendingOf i).length } } := by
    rw [hskip]; exact slot_setSlot_same _ _ _
  rw [startCancel, updateJob_of_job (by rw [hslot]), hslot, hskip]
  exact Vector.set_set ..

theorem startCancel_slot_ne {k : Slot} (hk : k ≠ i) : (startCancel i s).slot k = s.slot k := by
  rw [startCancel, slot_updateJob_ne hk]
  exact slot_updateJob_ne (s := { s with points := s.points.filter fun p => !(p.slot = i && p.state = .pending) }) hk

theorem startCancel_points : (startCancel i s).points = s.points.filter fun p => !(p.slot = i && p.state = .pending) := by
  rw [startCancel_frame]

/-- Without its PENDING and GRANTED points a job has none. -/
theorem filter_pending_granted (ps : List Point) :
    (ps.filter fun p => !(p.slot = i && p.state = .pending)).filter (fun p => !(p.slot = i && p.state = .granted)) =
      ps.filter fun p => p.slot ≠ i := by
  rw [List.filter_filter]
  refine List.filter_congr fun p _ => ?_
  by_cases hp : p.slot = i <;> cases p.state <;> simp [hp]

/-- A job without a granted point keeps none once its PENDING ones are skipped. -/
theorem startCancel_points_of_idle (hg : s.grantedOf i = none) :
    (startCancel i s).points = s.points.filter fun p => p.slot ≠ i := by
  rw [startCancel_points]
  refine List.filter_congr fun p hp => ?_
  have hnot := List.find?_eq_none.mp hg p hp
  by_cases hslot : p.slot = i
  · cases hst : p.state <;> simp_all
  · simp [hslot]

theorem startCancel_pointsOf_of_idle (hg : s.grantedOf i = none) : (startCancel i s).pointsOf i = [] := by
  rw [State.pointsOf, startCancel_points_of_idle hg, List.filter_filter]
  exact List.filter_eq_nil_iff.mpr fun p _ => by by_cases hp : p.slot = i <;> simp [hp]

/-- The cancel of a job without a granted point (R15). -/
theorem cancelOn_of_idle (hj : (s.slot i).job = some j) (hg : s.grantedOf i = none) (hd : s.arb.due = false) :
    cancelOn i j s = (endJob i .cancelled (startCancel i s), .ok (u16 (s.pendingOf i).length ++ u8 0)) := by
  have hout : cancelOutcome s i = .finishedNow := by simp [cancelOutcome, hg]
  have hjob : ((startCancel i s).slot i).job = some (cancelledJob (s.pendingOf i).length j) := by
    rw [startCancel_slot_same hj]
  have hnone : (startCancel i s).pointsOf i = [] := startCancel_pointsOf_of_idle hg
  have hend : finishTest i (startCancel i s) = endJob i .cancelled (startCancel i s) := by
    generalize startCancel i s = u at hjob hnone
    exact finishTest_ends hjob (Or.inr rfl) hnone
  have hdue : (endJob i .cancelled (startCancel i s)).arb.due = false := by
    rw [endJob_frame, startCancel_frame]; exact hd
  simp only [cancelOn, hout]
  rw [hend, settle_of_not_due hdue]
  rfl

/-- The cancel of a job whose point runs on (R16). -/
theorem cancelOn_of_running {g : Point} (hg : s.grantedOf i = some g) (hs : s.cycle.state ≠ .positioning)
    (hd : s.arb.due = false) :
    cancelOn i j s = (startCancel i s, .ok (u16 (s.pendingOf i).length ++ u8 2)) := by
  have hout : cancelOutcome s i = .draining := by simp [cancelOutcome, hg, hs]
  have hdue : (startCancel i s).arb.due = false := by rw [startCancel_frame]; exact hd
  simp only [cancelOn, hout]
  rw [settle_of_not_due hdue]
  rfl

end

/-- Settles O10. -/
theorem cancelEndsAnIdleJob : Obligations.CancelEndsAnIdleJob := by
  unfold Obligations.CancelEndsAnIdleJob
  intro p i j s hp hf ho hc hg hd
  obtain ⟨hj, -, -⟩ := findJob_eq_some hf
  have hbody : withLiveJob p (handleAt (s.blockOf p)) cancelOn (takeCommand p s) =
      (endJob i .cancelled (startCancel i (takeCommand p s)), .ok (u16 (s.pendingOf i).length ++ u8 0)) :=
    (withLiveJob_of_live (s := takeCommand p s) hf ho hc).trans (cancelOn_of_idle (s := takeCommand p s) hj hg hd)
  have hslot := startCancel_slot_same (s := takeCommand p s) (i := i) hj
  have hpoints := startCancel_points_of_idle (s := takeCommand p s) hg
  have hframe := startCancel_frame i (takeCommand p s)
  have hrest : ∀ k, k ≠ i → (startCancel i (takeCommand p s)).slot k = s.slot k := fun k hk =>
    startCancel_slot_ne (s := takeCommand p s) hk
  generalize hu : startCancel i (takeCommand p s) = u at hbody hslot hpoints hframe hrest
  have hjob : (u.slot i).job = some (cancelledJob (s.pendingOf i).length j) := by rw [hslot]; rfl
  have hresults : u.results = s.results := by rw [hframe]; rfl
  have hid : u.newRecordId = s.newRecordId := by rw [State.newRecordId, hresults]; rfl
  have hhandle : u.handle i = s.handle i := by rw [State.handle, hslot]; rfl
  have hports : u.ports = (takeCommand p s).ports := by rw [hframe]
  have hothers : ∀ q, q ≠ p → (endJob i .cancelled u).mailbox q = s.mailbox q := fun q hq => by
    rw [endJob_mailbox_ne hjob (show q ≠ (cancelledJob _ j).owner from fun h => hq (h.trans ho)), State.mailbox, hports]
    exact mailbox_setMailbox_ne s hq _
  obtain ⟨t, hexec, ht, htold, hkept⟩ := told_of_body (body := fun blk => withLiveJob p (handleAt blk) cancelOn) hp hbody
    ((PulsedOnly.of_ports hports).trans pulsedOnly_endJob) hothers
  have hts : ∀ k, t.slot k = (endJob i .cancelled u).slot k := fun k => by rw [ht]; rfl
  have htr : t.results = (endJob i .cancelled u).results := by rw [ht]
  rw [endJob_results hjob, hresults, hid] at htr
  have hown : (cancelledJob (s.pendingOf i).length j).owner = p := ho
  rw [hown] at htr
  have hbare : endJob i .cancelled u = { s with
      ports := (endJob i .cancelled u).ports, jobs := (endJob i .cancelled u).jobs
      points := s.points.filter fun q => q.slot ≠ i, results := (endJob i .cancelled u).results
      arb := (endJob i .cancelled u).arb } := by
    have hup : u.points = s.points.filter fun q => q.slot ≠ i := hpoints
    rw [endJob_cancelled_frame hjob, hup, hframe]
    rfl
  refine ⟨t, hexec, ?_, ?_, ?_, fun k hk => ?_, ⟨{ jobEndRecord u i (cancelledJob (s.pendingOf i).length j) .cancelled with
    id := s.newRecordId }, jobEndBody (cancelledJob (s.pendingOf i).length j) (u.slot i).acc
    (u.station j.params.objective) .cancelled, ?_, rfl, rfl, hhandle, hown, rfl, rfl, rfl, rfl, rfl, ?_, ?_⟩,
    fun q hq => ?_, ?_, ?_, ?_, ?_, htold, hkept⟩
  · rw [ht, hbare]
  · rw [ht, hbare]
  · rw [hts, endJob_slot_same hjob, hslot]; rfl
  · rw [hts, endJob_slot_ne hjob hk, jobEndTables_cancelled]; exact hrest k hk
  · rw [htr]
    exact forPort_withPort _ _ _
  · exact if_neg fun h => nomatch h.2
  · exact if_neg fun h => nomatch h.2
  · rw [htr]; exact forPort_withPort_ne _ hq _
  · rw [htr]
  · rw [htr]
  · rw [htr]
  · rw [ht]
    refine (endJob_arb hjob).trans ?_
    rw [hhandle, hframe]
    rfl

/-! ## The void of a grant (R31, R62) -/

section
variable {s : State} {i : Slot} {j : Job}

theorem voidReleased_slot_same (hj : (s.slot i).job = some j) :
    (voidReleased i s).slot i = { s.slot i with job := some { j with voided := j.voided + 1 } } := by
  have hbefore : ∀ k, (dropGranted i (withdrawOrder s)).slot k = s.slot k := fun k => by
    show (withdrawOrder s).slot k = s.slot k
    rw [withdrawOrder, endOrder_frame]; rfl
  have hrelease : ∀ u : State, (releaseSlot u).slot i = u.slot i := fun u => by rw [releaseSlot_frame]; rfl
  rw [voidReleased, hrelease, slot_updateJob_same (by rw [hbefore]; exact hj), hbefore]

theorem voidReleased_slot_ne {k : Slot} (hk : k ≠ i) : (voidReleased i s).slot k = s.slot k := by
  have hrelease : ∀ u : State, (releaseSlot u).slot k = u.slot k := fun u => by rw [releaseSlot_frame]; rfl
  rw [voidReleased, hrelease, slot_updateJob_ne hk]
  show (withdrawOrder s).slot k = s.slot k
  rw [withdrawOrder, endOrder_frame]; rfl

/-- With the head BUSY a released reservation is no decision event (R23). -/
theorem voidReleased_due (hh : s.arb.head ≠ .idle) : (voidReleased i s).arb = s.arb := by
  have hw : withdrawOrder s = { s with stage := (withdrawOrder s).stage } := endOrder_frame .withdrawn s
  unfold voidReleased releaseSlot
  rw [noteDecision_of_not_idle]
  · show ((dropGranted i (withdrawOrder s)).updateJob i _).arb = s.arb
    rw [updateJob_frame, hw]; rfl
  · show ((dropGranted i (withdrawOrder s)).updateJob i _).arb.head ≠ .idle
    rw [updateJob_frame, hw]; exact hh

theorem withdrawOrder_stage_of_stage {u : State} (h : u.stage = s.stage) : (withdrawOrder u).stage = (withdrawOrder s).stage := by
  have hpo : u.pendingOrder = s.pendingOrder := by rw [State.pendingOrder, h]; rfl
  simp only [withdrawOrder, endOrder, hpo, h]
  cases s.pendingOrder <;> simp [h]

/-- The released grant of a state that differs from `s` in jobs and points alone. -/
theorem voidReleased_of_frame {u : State} (hu : u = { s with jobs := u.jobs, points := u.points }) (hh : s.arb.head ≠ .idle) :
    voidReleased i u = { s with
      stage := (withdrawOrder s).stage, points := u.points.filter fun p => !(p.slot = i && p.state = .granted)
      jobs := (voidReleased i u).jobs, results := { s.results with reserved := s.results.reserved - 1 } } := by
  have harb : u.arb = s.arb := by rw [hu]
  have hstage : u.stage = s.stage := by rw [hu]
  have hdue := voidReleased_due (i := i) (s := u) (harb ▸ hh)
  refine (voidReleased_frame i u).trans ?_
  rw [hdue, withdrawOrder_stage_of_stage hstage]
  generalize (voidReleased i u).jobs = js
  rw [hu]

theorem clearingDone_of_pending (h : s.cycle.pendTurret = true) : clearingDone s = s := by
  unfold clearingDone
  rw [if_neg (by simp [h])]

theorem endOrder_of_some {st : OrderStatus} {o : Order} (h : s.pendingOrder = some o) : endOrder st s = { s with
    stage := { s.stage with order := some { o with status := st }, settleTimer := false } } := by
  simp only [endOrder, h]

theorem endOrder_of_none {st : OrderStatus} (h : s.pendingOrder = none) : endOrder st s = s := by
  simp only [endOrder, h]

/-- The cancel of a job whose grant is still in POSITIONING, a rotation in flight (R16). -/
theorem cancelOn_of_positioning {g : Point} (hg : s.grantedOf i = some g) (hs : s.cycle.state = .positioning) :
    cancelOn i j s = (settle (voidGrant i (startCancel i s)), .ok (u16 (s.pendingOf i).length ++ u8 1)) := by
  have hout : cancelOutcome s i = .voided := by simp [cancelOutcome, hg, hs]
  simp only [cancelOn, hout]
  rfl

end

/-- Settles O11: a void ends the job in the state whose point and reservation are gone. -/
theorem cancelVoidsOrDrains : Obligations.CancelVoidsOrDrains := by
  unfold Obligations.CancelVoidsOrDrains
  intro p i j g s hp hf ho hc hg hh hd
  obtain ⟨hj, -, -⟩ := findJob_eq_some hf
  have hlive : withLiveJob p (handleAt (s.blockOf p)) cancelOn (takeCommand p s) = cancelOn i j (takeCommand p s) :=
    withLiveJob_of_live (s := takeCommand p s) hf ho hc
  have hslot := startCancel_slot_same (s := takeCommand p s) (i := i) hj
  have hrest : ∀ k, k ≠ i → (startCancel i (takeCommand p s)).slot k = s.slot k := fun k hk =>
    startCancel_slot_ne (s := takeCommand p s) hk
  refine ⟨fun hs hpt hrot => ?_, fun hs => ?_⟩
  · have hframe := startCancel_frame i (takeCommand p s)
    have hbody := hlive.trans (cancelOn_of_positioning (s := takeCommand p s) (j := j) hg hs)
    generalize startCancel i (takeCommand p s) = u at hframe hslot hrest hbody
    have huj : (u.slot i).job = some (cancelledJob (s.pendingOf i).length j) := by rw [hslot]; rfl
    have hvslot := voidReleased_slot_same huj
    have hvrest : ∀ k, k ≠ i → (voidReleased i u).slot k = s.slot k := fun k hk =>
      (voidReleased_slot_ne hk).trans (hrest k hk)
    have hbare : u = { takeCommand p s with jobs := u.jobs, points := u.points } := hframe.trans (by rw [hframe])
    have hupoints : u.points = s.points.filter fun q => !(q.slot = i && q.state = .pending) := by rw [hframe]; rfl
    have hvframe := voidReleased_of_frame (i := i) hbare (hh ▸ by decide : s.arb.head ≠ .idle)
    rw [hupoints, filter_pending_granted] at hvframe
    have hvarb : (voidReleased i u).arb = s.arb := by rw [hvframe]; rfl
    have hvpoints : (voidReleased i u).points = s.points.filter fun q => q.slot ≠ i := by rw [hvframe]
    rw [voidGrant_eq] at hbody
    generalize voidReleased i u = v at hvslot hvrest hvarb hvframe hvpoints hbody
    have hvj : (v.slot i).job = some { cancelledJob (s.pendingOf i).length j with voided := j.voided + 1 } := by
      rw [hvslot]; rfl
    have hnone : v.pointsOf i = [] := by
      rw [State.pointsOf, hvpoints, List.filter_filter]
      exact List.filter_eq_nil_iff.mpr fun q _ => by by_cases hq : q.slot = i <;> simp [hq]
    have hend : finishTest i v = endJob i .cancelled v := finishTest_ends hvj (.inr rfl) hnone
    have hwframe := endJob_cancelled_frame hvj
    have hwcycle : (endJob i .cancelled v).cycle = s.cycle := by rw [hwframe, hvframe]; rfl
    have hwturret : (endJob i .cancelled v).turret = s.turret := by rw [hwframe, hvframe]; rfl
    have hwarb := endJob_arb (reason := .cancelled) hvj
    rw [hvarb] at hwarb
    have hpending : (voidCleared (endJob i .cancelled v)).cycle.pendTurret = true := by
      simp [voidCleared, clearingCycle, onCycle, hwcycle, hwturret, hpt, hrot]
    have hdue : (voidCleared (endJob i .cancelled v)).arb.due = false := by
      show (endJob i .cancelled v).arb.due = false
      rw [hwarb]
      split <;> exact hd
    rw [hend, clearingDone_of_pending hpending, settle_of_not_due hdue] at hbody
    have hown : ({ cancelledJob (s.pendingOf i).length j with voided := j.voided + 1 } : Job).owner = p := ho
    have hports : v.ports = (takeCommand p s).ports := by rw [hvframe]
    have hothers : ∀ q, q ≠ p → (voidCleared (endJob i .cancelled v)).mailbox q = s.mailbox q := fun q hq => by
      show (endJob i .cancelled v).mailbox q = s.mailbox q
      rw [endJob_mailbox_ne hvj fun h => hq (h.trans hown), State.mailbox, hports]
      exact mailbox_setMailbox_ne s hq _
    have hpulse : PulsedOnly (takeCommand p s) (voidCleared (endJob i .cancelled v)) :=
      ((PulsedOnly.of_ports hports).trans (pulsedOnly_endJob (i := i) (reason := .cancelled))).trans (.of_ports rfl)
    obtain ⟨t, hexec, ht, htold, -⟩ := told_of_body (body := fun blk => withLiveJob p (handleAt blk) cancelOn) hp hbody
      hpulse hothers
    have htr : t.results = (endJob i .cancelled v).results := by rw [ht]; rfl
    have hvr : v.results = { s.results with reserved := s.results.reserved - 1 } := by rw [hvframe]; rfl
    rw [endJob_results hvj, hvr, hown] at htr
    have hstage : ∀ o, s.pendingOrder = some o →
        t.stage = { s.stage with order := some { o with status := .withdrawn }, settleTimer := false } := fun o hpo => by
      have hw := endOrder_of_some (st := .withdrawn) (s := takeCommand p s) (o := o) hpo
      rw [ht]
      show (endJob i .cancelled v).stage = _
      rw [hwframe, hvframe]
      exact congrArg State.stage hw
    refine ⟨t, hexec, ?_, ?_, ?_, fun k hk => ?_, fun o hpo => ?_, ⟨{ jobEndRecord v i { cancelledJob (s.pendingOf i).length j
      with voided := j.voided + 1 } .cancelled with id := v.newRecordId }, _, ?_, rfl, rfl, rfl, rfl⟩, ?_, ?_, ?_, ?_, ?_, ?_,
      htold⟩
    · rw [ht]
      simp only [voidCleared, onCycle]
      rw [hwframe, hvframe]
      rfl
    · rw [ht]
      show (endJob i .cancelled v).points = _
      rw [hwframe]; exact hvpoints
    · rw [ht]
      show ((endJob i .cancelled v).slot i).job = none
      rw [endJob_slot_same hvj]
    · rw [ht]
      show (endJob i .cancelled v).slot k = s.slot k
      rw [endJob_slot_ne hvj hk, jobEndTables_cancelled]; exact hvrest k hk
    · rw [hstage o hpo]; exact ⟨rfl, rfl⟩
    · rw [htr]; exact forPort_withPort _ _ _
    · rw [htr]
    · rw [ht]; rfl
    · rw [ht]; rfl
    · rw [ht]; exact hpending
    · rw [ht]; rfl
    · rw [ht]
      show (endJob i .cancelled v).arb.head = .busy
      rw [hwarb]
      split <;> exact hh
  · have hbody := hlive.trans (cancelOn_of_running (s := takeCommand p s) (j := j) hg hs hd)
    have hframe := startCancel_frame i s
    have htaken : startCancel i (takeCommand p s) = { startCancel i s with ports := (takeCommand p s).ports } := by
      rw [startCancel_frame i (takeCommand p s), hframe]
      have hjobs : (startCancel i (takeCommand p s)).jobs = (startCancel i s).jobs := by
        rw [startCancel_jobs (s := takeCommand p s) hj, startCancel_jobs hj]
        rfl
      rw [hjobs]
      rfl
    rw [htaken] at hbody
    have hrun := runCommand_of_changed (body := fun blk => withLiveJob p (handleAt blk) cancelOn) (u := startCancel i s) hp hbody
    refine ⟨_, congrArg Host.Outcome.next hrun, ?_, startCancel_points, startCancel_slot_same hj, fun k hk =>
      startCancel_slot_ne hk, answeredWith_ports, othersKept_ports⟩
    rw [hframe]

end Sys2Proof.Machine
end

section
/-! PROOFS. The result commands, IMAGE_READ and MAP_CLEAR (R116, R158 to R161, R168). -/

namespace Sys2Proof.Machine

section
variable {p : Port} {blk : List Byte} {s : State} {r : Record} {rest : List Record}

theorem recordBytes_length (r : Record) : (recordBytes r).length = 64 := fitTo_length _ _

/-! ## RESULT_TAKE -/

/-- The oldest UNTAKEN record of a port handed over (R158). -/
def takenState (p : Port) (r : Record) (rest : List Record) (s : State) : State := { s with results := { s.results with
  untaken := withPort s.results.untaken p rest
  taken := withPort s.results.taken p (forPort s.results.taken p ++ [r]) } }

theorem resultTakeBody_of_nil (h : forPort s.results.untaken p = []) : resultTakeBody p blk s = (s, refuse .noRecord) := by
  simp only [resultTakeBody, h]

theorem resultTakeBody_of_cons (h : forPort s.results.untaken p = r :: rest) :
    resultTakeBody p blk s = (takenState p r rest s, .ok (recordBytes r ++ u8 rest.length)) := by
  simp only [resultTakeBody, h, takenState]

/-! ## RESULT_FREE, RESULT_FREE_OLDEST -/

/-- A port's taken list replaced (R159, R160). -/
def withTaken (p : Port) (rest : List Record) (s : State) : State :=
  { s with results := { s.results with taken := withPort s.results.taken p rest } }

/-- With the head not IDLE a free decides nothing (R23). -/
theorem freeTaken_of_not_idle (hh : s.arb.head ≠ .idle) (hd : s.arb.due = false) :
    freeTaken p rest s = withTaken p rest s := by
  show settle (noteDecision (withTaken p rest s)) = withTaken p rest s
  rw [noteDecision_of_not_idle (s := withTaken p rest s) hh, settle_of_not_due (s := withTaken p rest s) hd]

theorem freeOldestBody_of_nil (h : forPort s.results.taken p = []) : freeOldestBody p blk s = (s, refuse .noRecord) := by
  simp only [freeOldestBody, h]

theorem freeOldestBody_of_cons (h : forPort s.results.taken p = r :: rest) (hh : s.arb.head ≠ .idle)
    (hd : s.arb.due = false) : freeOldestBody p blk s =
      (withTaken p rest s, .ok (freePayload r.id rest.length (withTaken p rest s))) := by
  simp only [freeOldestBody, h, freeTaken_of_not_idle hh hd]

theorem resultFreeBody_of_none (ht : s.results.takenWith (recordIdParam blk) = none)
    (hu : s.results.untakenWith (recordIdParam blk) = none) : resultFreeBody p blk s = (s, refuse .noRecord) := by
  simp only [resultFreeBody, ht, hu]

theorem resultFreeBody_of_foreign (ht : s.results.takenWith (recordIdParam blk) = some r) (hr : r.port ≠ p) :
    resultFreeBody p blk s = (s, refuse .notOwner) := by
  simp only [resultFreeBody, ht, if_neg hr]

theorem resultFreeBody_of_untaken (ht : s.results.takenWith (recordIdParam blk) = none)
    (hu : s.results.untakenWith (recordIdParam blk) = some r) :
    resultFreeBody p blk s = (s, refuse (if r.port = p then .wrongState else .notOwner)) := by
  simp only [resultFreeBody, ht, hu]

theorem resultFreeBody_of_taken (ht : s.results.takenWith (recordIdParam blk) = some r) (hr : r.port = p)
    (hh : s.arb.head ≠ .idle) (hd : s.arb.due = false) :
    let rest := (forPort s.results.taken p).filter fun x => x.id ≠ recordIdParam blk
    resultFreeBody p blk s =
      (withTaken p rest s, .ok (freePayload (recordIdParam blk) rest.length (withTaken p rest s))) := by
  simp only [resultFreeBody, ht, if_pos hr, freeRecord, freeTaken_of_not_idle hh hd]

/-! ## RESULT_READ -/

theorem resultReadBody_of_untaken (hu : s.results.untakenWith (recordIdParam blk) = some r) :
    resultReadBody blk s = (s, .ok (recordBytes r ++ u8 0)) := by
  simp only [resultReadBody, hu]

theorem resultReadBody_of_taken (hu : s.results.untakenWith (recordIdParam blk) = none)
    (ht : s.results.takenWith (recordIdParam blk) = some r) :
    resultReadBody blk s = (s, .ok (recordBytes r ++ u8 1)) := by
  simp only [resultReadBody, hu, ht]

theorem resultReadBody_of_none (hu : s.results.untakenWith (recordIdParam blk) = none)
    (ht : s.results.takenWith (recordIdParam blk) = none) : resultReadBody blk s = (s, refuse .noRecord) := by
  simp only [resultReadBody, hu, ht]

/-! ## IMAGE_READ -/

variable {id : Word16} {row col n h : Nat}

theorem imageReadBody_of_gone (hq : imageReadParams blk = some (id, row, col, n)) (hid : s.frames.lastId ≠ some id) :
    imageReadBody blk s = (s, refuse .imageGone) := by
  cases hl : s.frames.lastId with
  | none => simp only [imageReadBody, hq, hl]
  | some held =>
    have hne : held ≠ id := fun he => hid (hl.trans (congrArg some he))
    cases hh : s.frames.lastHEff with
    | none => simp only [imageReadBody, hq, hl, hh]
    | some h => simp only [imageReadBody, hq, hl, hh, if_pos hne]

theorem imageReadBody_of_outside (hq : imageReadParams blk = some (id, row, col, n)) (hid : s.frames.lastId = some id)
    (hh : s.frames.lastHEff = some h) (hout : 2 * h ≤ row ∨ 2 * h < col + n) :
    imageReadBody blk s = (s, refuse .badParam) := by
  simp only [imageReadBody, hq, hid, hh, if_pos hout, ne_eq, not_true_eq_false, if_false]

theorem imageReadBody_of_inside (hq : imageReadParams blk = some (id, row, col, n)) (hid : s.frames.lastId = some id)
    (hh : s.frames.lastHEff = some h) (hin : ¬ (2 * h ≤ row ∨ 2 * h < col + n)) :
    imageReadBody blk s =
      (s, .ok (u16 id.toNat ++ u16 row ++ u16 col ++ u8 n ++ imageBytes s.frames row col n)) := by
  simp only [imageReadBody, hq, hid, hh, if_neg hin, ne_eq, not_true_eq_false, if_false]

/-- Consecutive columns stand at consecutive addresses. -/
theorem imageBytes_eq (f : FrameStore) (row col n : Nat) : imageBytes f row col n =
    (List.range n).map fun k => Memory.read f.mem (frameAddr f.last.val row (col + k)) := by
  rw [imageBytes, Memory.slice_eq]
  simp only [frameAddr, Nat.add_assoc]

/-! ## MAP_CLEAR -/

theorem mapClearParams_of_beyond (h : 1 < readU blk 0 1) : mapClearParams blk = none := by
  simp only [mapClearParams]
  split
  · next h0 => omega
  · next h1 => omega
  · rfl

end

/-- A free as the statements see it: the list replaced, the payload answered. -/
theorem answered_of_withTaken {p : Port} {s : State} {rest : List Record} {id code : Word16}
    {body : List Byte → State → State × Reply} (h : s.posted p code = true)
    (hbody : body (s.blockOf p) (takeCommand p s) =
      (withTaken p rest (takeCommand p s), .ok (freePayload id rest.length (withTaken p rest (takeCommand p s))))) :
    ∃ t, (Host.Outcome.next (runCommand code p body s) : Host.Outcome State Fault Refusal) = .next t ∧
      t = { s with ports := t.ports, results := { s.results with taken := t.results.taken } } ∧
      forPort t.results.taken p = rest ∧ (∀ q, q ≠ p → forPort t.results.taken q = forPort s.results.taken q) ∧
      AnsweredWith p (.ok (u16 id.toNat ++ u8 rest.length ++ u8 t.results.free)) s t ∧ OthersKept p s t :=
  have hrun := runCommand_of_changed (u := withTaken p rest s) h hbody
  ⟨_, congrArg Host.Outcome.next hrun, rfl, forPort_withPort _ _ _, fun _ hq => forPort_withPort_ne _ hq _,
    answeredWith_ports, othersKept_ports⟩

/-- Settles O13. -/
theorem resultTakeHandsOver : Obligations.ResultTakeHandsOver := by
  unfold Obligations.ResultTakeHandsOver
  intro p s hp
  refine ⟨fun r rs hr => ?_, fun hr => onlyAnswered_of_same hp (resultTakeBody_of_nil (s := takeCommand p s) hr)⟩
  have hrun := runCommand_of_changed (u := takenState p r rs s) hp (resultTakeBody_of_cons (s := takeCommand p s) hr)
  exact ⟨_, congrArg Host.Outcome.next hrun, rfl, forPort_withPort _ _ _, forPort_withPort _ _ _,
    fun q hq => ⟨forPort_withPort_ne _ hq _, forPort_withPort_ne _ hq _⟩, answeredWith_ports, othersKept_ports⟩

/-- Settles O14. -/
theorem resultFreeFrees : Obligations.ResultFreeFrees := by
  unfold Obligations.ResultFreeFrees
  intro p s hh hd
  refine ⟨fun hp => ⟨fun ht hu => ?_, fun r ht hr => ?_, fun r ht hu => ?_⟩, fun hp ht => ?_, fun r hp ht hr => ?_,
    fun r rs hp hr => ?_⟩
  · exact onlyAnswered_of_same hp (resultFreeBody_of_none (s := takeCommand p s) ht hu)
  · exact onlyAnswered_of_same hp (resultFreeBody_of_foreign (s := takeCommand p s) ht hr)
  · exact onlyAnswered_of_same hp (resultFreeBody_of_untaken (s := takeCommand p s) ht hu)
  · exact onlyAnswered_of_same hp (freeOldestBody_of_nil (s := takeCommand p s) ht)
  · obtain ⟨t, hexec, hframe, hleft, hothers, hanswer, hkept⟩ := answered_of_withTaken hp
      (resultFreeBody_of_taken (s := takeCommand p s) ht hr hh hd)
    refine ⟨t, hexec, hframe, hleft, hothers, ?_, hkept⟩
    rw [hleft]
    exact hanswer
  · exact answered_of_withTaken hp (freeOldestBody_of_cons (s := takeCommand p s) hr hh hd)

/-- Settles O15. -/
theorem resultReadAnswers : Obligations.ResultReadAnswers := by
  unfold Obligations.ResultReadAnswers
  intro p s hp
  refine ⟨fun r hu => ?_, fun r hu ht => ?_, fun hu ht => ?_⟩
  · obtain ⟨t, hexec, hdone⟩ := onlyAnswered_of_same hp (resultReadBody_of_untaken (s := takeCommand p s) hu)
    exact ⟨t, hexec, hdone, recordBytes_length r⟩
  · exact onlyAnswered_of_same hp (resultReadBody_of_taken (s := takeCommand p s) hu ht)
  · exact onlyAnswered_of_same hp (resultReadBody_of_none (s := takeCommand p s) hu ht)

/-- Settles O16. -/
theorem imageReadAnswers : Obligations.ImageReadAnswers := by
  unfold Obligations.ImageReadAnswers
  intro p id row col n s hp hq
  refine ⟨fun h hid hh hrow hcol => ?_, fun hid => ?_, fun h hid hh hout => ?_⟩
  · rw [← imageBytes_eq]
    exact onlyAnswered_of_same hp (imageReadBody_of_inside (s := takeCommand p s) hq hid hh (by omega))
  · exact onlyAnswered_of_same hp (imageReadBody_of_gone (s := takeCommand p s) hq hid)
  · exact onlyAnswered_of_same hp (imageReadBody_of_outside (s := takeCommand p s) hq hid hh hout)

/-- Settles O17. -/
theorem mapClearRemoves : Obligations.MapClearRemoves := by
  unfold Obligations.MapClearRemoves
  intro p s hp
  refine ⟨fun scope hs => ?_, fun hs => ?_⟩
  · have hbody : mapClearBody (s.blockOf p) (takeCommand p s) =
        ({ ({ s with map := mapKeep scope s.map } : State) with ports := (takeCommand p s).ports },
          .ok (u8 (s.map.length - (mapKeep scope s.map).length) ++ u8 (mapKeep scope s.map).length)) := by
      simp only [mapClearBody, hs]
      rfl
    have hrun := runCommand_of_changed (u := { s with map := mapKeep scope s.map }) hp hbody
    refine ⟨_, congrArg Host.Outcome.next hrun, rfl, ?_, answeredWith_ports, othersKept_ports⟩
    cases scope <;> rfl
  · exact onlyAnswered_of_same hp (by simp only [mapClearBody, mapClearParams_of_beyond hs])

end Sys2Proof.Machine
end

section
/-! PROOFS. The end of a move order (R41 to R45) and the start of the indent (R46, R91, R92). -/

namespace Sys2Proof.Machine

section
variable {s : State} {o : Order} {st : OrderStatus}

/-! ## Work in progress that is not there -/

theorem abandonCapture_of_idle (h : s.cap.state = .idle) : abandonCapture s = s := by
  simp only [abandonCapture, h]

theorem abandonMeasure_of_none (h : s.meas.run = none) : abandonMeasure s = s := by
  simp only [abandonMeasure, h]

/-- Nothing to drop: no capture, no measurement, no PENDING order. -/
theorem dropWork_of_none (hcap : s.cap.state = .idle) (hmeas : s.meas.run = none) (hpo : s.pendingOrder = none) :
    dropWork s = s := by
  rw [dropWork, abandonCapture_of_idle hcap, abandonMeasure_of_none hmeas, withdrawOrder, endOrder_of_none hpo]

/-- An order that has ended is PENDING no longer. -/
theorem endOrder_pendingOrder (hpo : s.pendingOrder = some o) (hst : st ≠ .pending) :
    (endOrder st s).pendingOrder = none := by
  rw [endOrder_of_some hpo]
  simp [State.pendingOrder, hst]

/-! ## CLEARING with a rotation in flight (R56) -/

theorem enterClearing_of_rotating (hcap : s.cap.state = .idle) (hmeas : s.meas.run = none) (hpo : s.pendingOrder = none)
    (hpend : s.cycle.pendTurret = true) (hrot : s.turret.rotating = true) : enterClearing s = { s with
      cycle := { s.cycle with
        state := .clearing, pendStage := false, pendActuator := s.cycle.pendActuator && !s.act.atRest } } := by
  have hcycle : clearingCycle s.turret s.act s.cycle = { s.cycle with
      state := .clearing, pendStage := false, pendActuator := s.cycle.pendActuator && !s.act.atRest } := by
    rw [clearingCycle, hrot, Bool.and_true]
  simp only [enterClearing]
  rw [dropWork_of_none hcap hmeas hpo, onCycle, hcycle]
  exact clearingDone_of_pending hpend

/-- A stage failure while the turret turns (R45, R49). -/
theorem cycleStageFailed_of_rotating {status : Status} (hcap : s.cap.state = .idle) (hmeas : s.meas.run = none)
    (hpo : s.pendingOrder = none) (hs : s.cycle.state = .positioning ∨ s.cycle.state = .viewing)
    (hpend : s.cycle.pendTurret = true) (hrot : s.turret.rotating = true) : cycleStageFailed status s = { s with
      cycle := { s.cycle with
        state := .clearing, outcome := some status, pendStage := false
        pendActuator := s.cycle.pendActuator && !s.act.atRest } } := by
  have hfail : cycleStageFailed status s = failPoint status s := by
    rcases hs with hs | hs <;> simp only [cycleStageFailed, hs]
  rw [hfail, failPoint]
  exact enterClearing_of_rotating (s := onCycle (fun c => { c with outcome := some status }) s) hcap hmeas hpo hpend hrot

/-- The stage completion while TURRET is pending (R45, R49). -/
theorem cycleStageSettled_of_pendTurret (hs : s.cycle.state = .positioning ∨ s.cycle.state = .viewing)
    (hpend : s.cycle.pendTurret = true) :
    cycleStageSettled s = { s with cycle := { s.cycle with pendStage := false } } := by
  rcases hs with hs | hs <;> simp [cycleStageSettled, hs, advance, onCycle, hpend]

/-! ## A stage answer taken -/

/-- A stage answer whose effect leaves ports and decisions alone, as the statements see it. -/
theorem stageAnswer_taken {p : Port} {code : Word16} {report : State → State} {u : State} (h : s.posted p code = true)
    (hport : s.settings.stagePort = p) (hpo : s.pendingOrder = some o) (hseq : o.seq = seqParam (s.blockOf p))
    (hreport : report (endOrder st (takeCommand p s)) = { u with ports := (takeCommand p s).ports })
    (hdue : u.arb.due = false) :
    ∃ t, (Host.Outcome.next (runCommand code p (stageAnswer st report p) s) : Host.Outcome State Fault Refusal) =
      .next t ∧ t = { u with ports := t.ports } ∧ AnsweredWith p (.ok []) s t ∧ OthersKept p s t := by
  have hbody : stageAnswer st report p (s.blockOf p) (takeCommand p s) =
      ({ u with ports := (takeCommand p s).ports }, .ok []) := by
    rw [stageAnswer_takes (s := takeCommand p s) (o := o) hport hpo hseq, hreport,
      settle_of_not_due (s := { u with ports := (takeCommand p s).ports }) hdue]
  have hrun := runCommand_of_changed (u := u) h hbody
  exact ⟨_, congrArg Host.Outcome.next hrun, rfl, answeredWith_ports, othersKept_ports⟩

end

/-- Settles O18. -/
theorem ordersEnd : Obligations.OrdersEnd := by
  unfold Obligations.OrdersEnd
  intro o s hpo hs hpend hdue
  have hended : ∀ st, endOrder st s = { s with
      stage := { s.stage with order := some { o with status := st }, settleTimer := false } } := fun st =>
    endOrder_of_some hpo
  refine ⟨fun p hp hport hseq => ?_, fun hrot hcap hmeas => ⟨fun p hp hport hseq => ?_, fun htimer => ?_⟩⟩
  · refine stageAnswer_taken hp hport hpo hseq (u := { s with
      stage := { s.stage with order := some { o with status := .settled }, settleTimer := false }
      cycle := { s.cycle with pendStage := false } }) ?_ hdue
    rw [endOrder_of_some (s := takeCommand p s) hpo]
    exact cycleStageSettled_of_pendTurret (s := { takeCommand p s with
      stage := { s.stage with order := some { o with status := .settled }, settleTimer := false } }) hs hpend
  · refine stageAnswer_taken hp hport hpo hseq (u := { s with
      stage := { s.stage with order := some { o with status := .failed }, settleTimer := false }
      cycle := { s.cycle with
        state := .clearing, outcome := some .stageFailed, pendStage := false
        pendActuator := s.cycle.pendActuator && !s.act.atRest } }) ?_ hdue
    have hnone : (endOrder .failed (takeCommand p s)).pendingOrder = none :=
      endOrder_pendingOrder (s := takeCommand p s) hpo (by decide)
    rw [endOrder_of_some (s := takeCommand p s) hpo] at hnone ⊢
    exact cycleStageFailed_of_rotating (s := { takeCommand p s with
      stage := { s.stage with order := some { o with status := .failed }, settleTimer := false } })
      hcap hmeas hnone hs hpend hrot
  · have hnone : (endOrder .expired s).pendingOrder = none := endOrder_pendingOrder hpo (by decide)
    rw [hended] at hnone
    have hfail := cycleStageFailed_of_rotating (status := .stageTimeout) (s := { s with
      stage := { s.stage with order := some { o with status := .expired }, settleTimer := false } })
      hcap hmeas hnone hs hpend hrot
    show execSettleTimerExpiry s = _
    rw [execSettleTimerExpiry, if_pos ⟨by rw [hpo]; rfl, htimer⟩, hended, hfail]
    exact congrArg Host.Outcome.next (settle_of_not_due hdue)

/-! ## The start of the indent -/

section
variable {s : State}

/-- An indent request to a RETRACTED actuator with the turret at rest and both readings present (R91). -/
theorem indentRequest_of_retracted {q : IndentParams} {f d : Int} (ha : s.act.state = .retracted)
    (ht : s.turret.moving = false) (hf : s.acq.force = some f) (hd : s.acq.depth = some d) :
    indentRequest q s = startApproach q f d s := by
  simp only [indentRequest, ha, ht, beginIndent, hf, hd, Bool.false_eq_true, if_false]

/-- The stage completion as the last one of POSITIONING (R45, R46). -/
theorem cycleStageSettled_of_last {g : Granted} {j : Job} {f d : Int} (hs : s.cycle.state = .positioning)
    (hpend : s.cycle.pendTurret = false) (hj : s.cycleJob = some (g, j)) (ha : s.act.state = .retracted)
    (ht : s.turret.moving = false) (hf : s.acq.force = some f) (hd : s.acq.depth = some d) :
    cycleStageSettled s = startApproach (indentParamsOf j.params (s.indenterOf j.params.indenter)) f d { s with
      cycle := { s.cycle with state := .indenting, pendStage := false, pendActuator := true } } := by
  have hj' : (onCycle (fun c => { c with pendStage := false }) s).cycleJob = some (g, j) := hj
  have hadvance : cycleStageSettled s = enterIndenting (onCycle (fun c => { c with pendStage := false }) s) := by
    simp only [cycleStageSettled, hs, advance, onCycle, hpend, Bool.or_self, Bool.false_eq_true, if_false]
  rw [hadvance]
  simp only [enterIndenting, hj']
  exact indentRequest_of_retracted (s := { s with
    cycle := { s.cycle with state := .indenting, pendStage := false, pendActuator := true } }) ha ht hf hd

end

/-- Settles O19. -/
theorem lastCompletionStartsTheIndent : Obligations.LastCompletionStartsTheIndent := by
  unfold Obligations.LastCompletionStartsTheIndent
  intro p o g j f d s hp hport hpo hseq hs hpend hj ha ht hf hd hdue
  have hreport : cycleStageSettled (endOrder .settled (takeCommand p s)) = { startApproach
      (indentParamsOf j.params (s.indenterOf j.params.indenter)) f d { s with
        stage := { s.stage with order := some { o with status := .settled }, settleTimer := false }
        cycle := { s.cycle with state := .indenting, pendStage := false, pendActuator := true } } with
      ports := (takeCommand p s).ports } := by
    rw [endOrder_of_some (s := takeCommand p s) hpo]
    exact cycleStageSettled_of_last (s := { takeCommand p s with
      stage := { s.stage with order := some { o with status := .settled }, settleTimer := false } })
      hs hpend hj ha ht hf hd
  obtain ⟨t, hexec, hframe, hanswer, hkept⟩ := stageAnswer_taken hp hport hpo hseq hreport hdue
  refine ⟨t, hexec, ?_, ?_, ?_, ?_, hanswer, hkept⟩ <;> rw [hframe] <;> rfl

end Sys2Proof.Machine
end

section
/-! PROOFS. The calibration and settings commands (R171 to R177). -/

namespace Sys2Proof.Machine

section
variable {α : Type} {params : List Byte → Option α} {effect : α → State → State} {lapsed : α → State → Nat}
  {p : Port} {code : Word16} {w : α} {s : State}

/-! ## A write, taken or refused (R171) -/

theorem writeCommand_of_none {blk : List Byte} (h : params blk = none) :
    writeCommand params effect lapsed blk s = (s, refuse .badParam) := by
  simp only [writeCommand, h]

theorem writeCommand_of_busy {blk : List Byte} (h : params blk = some w) (hb : s.writesBusy = true) :
    writeCommand params effect lapsed blk s = (s, refuse .busy) := by
  simp only [writeCommand, h, if_pos hb]

theorem writeCommand_of_taken {blk : List Byte} (h : params blk = some w) (hb : s.writesBusy = false) :
    writeCommand params effect lapsed blk s = (effect w s, .ok (u8 (lapsed w s))) := by
  simp only [writeCommand, h, hb, Bool.false_eq_true, if_false]

/-- A write taken whose effect does not depend on the ports, as the statements see it. -/
theorem write_taken (h : s.posted p code = true) (hw : params (s.blockOf p) = some w) (hb : s.writesBusy = false)
    (heffect : effect w (takeCommand p s) = { effect w s with ports := (takeCommand p s).ports })
    (hlapsed : lapsed w (takeCommand p s) = lapsed w s) :
    ∃ t, (Host.Outcome.next (runCommand code p (writeCommand params effect lapsed) s) :
        Host.Outcome State Fault Refusal) = .next t ∧
      t = { effect w s with ports := t.ports } ∧ AnsweredWith p (.ok (u8 (lapsed w s))) s t ∧ OthersKept p s t := by
  have hbody := writeCommand_of_taken (effect := effect) (lapsed := lapsed) (s := takeCommand p s) hw hb
  rw [heffect, hlapsed] at hbody
  exact ⟨_, congrArg Host.Outcome.next (runCommand_of_changed (u := effect w s) h hbody), rfl, answeredWith_ports,
    othersKept_ports⟩

/-- The two refusals of a write, parameters first (R171). -/
theorem write_refused (h : s.posted p code = true) :
    ((params (s.blockOf p)).isSome = false →
      ∃ t, (Host.Outcome.next (runCommand code p (writeCommand params effect lapsed) s) :
        Host.Outcome State Fault Refusal) = .next t ∧ OnlyAnswered p (refuse .badParam) s t) ∧
    ((params (s.blockOf p)).isSome = true →
      (s.arb.head = .busy ∨ s.arb.head = .selftest ∨ s.arb.head = .recovering) →
      ∃ t, (Host.Outcome.next (runCommand code p (writeCommand params effect lapsed) s) :
        Host.Outcome State Fault Refusal) = .next t ∧ OnlyAnswered p (refuse .busy) s t) := by
  refine ⟨fun hnone => ?_, fun hsome hhead => ?_⟩
  · exact onlyAnswered_of_same h (writeCommand_of_none (by simpa using hnone))
  · obtain ⟨w, hw⟩ := Option.isSome_iff_exists.mp hsome
    have hbusy : s.writesBusy = true := by
      rcases hhead with hh | hh | hh <;> simp only [State.writesBusy, hh]
    exact onlyAnswered_of_same h (writeCommand_of_busy (s := takeCommand p s) hw hbusy)

end

/-- Settles O22. -/
theorem writesAreRefusedWhileTheHeadWorks : Obligations.WritesAreRefusedWhileTheHeadWorks := by
  unfold Obligations.WritesAreRefusedWhileTheHeadWorks
  intro p c code good s hc hp
  simp only [List.mem_cons, List.not_mem_nil, or_false, Prod.mk.injEq] at hc
  rcases hc with ⟨rfl, rfl, rfl⟩ | ⟨rfl, rfl, rfl⟩ | ⟨rfl, rfl, rfl⟩ | ⟨rfl, rfl, rfl⟩ <;> exact write_refused hp

/-! ## What the writes change -/

section
variable {s : State} {i : Slot} {j : Job}

theorem slot_restartWhere_of_job (covers : JobParams → Bool) (hj : (s.slot i).job = some j) :
    (restartWhere covers s).slot i = if covers j.params then { s.slot i with acc := {} } else s.slot i := by
  rw [slot_restartWhere, hj]

/-- Every VERIFY job restarts (R174, R176). -/
theorem slot_lapseAll (hj : (s.slot i).job = some j) :
    (lapseAll s).slot i = if j.params.kind = .verify then { s.slot i with acc := {} } else s.slot i := by
  have h := slot_restartWhere_of_job (s := lapseWhere (fun _ => true) s) (fun q => q.kind = .verify) hj
  simp only [decide_eq_true_eq] at h
  exact h

/-- The jobs a station write restarts (R173). -/
theorem slot_stationWrite (w : Station × StationRec) (hj : (s.slot i).job = some j) : (stationWrite w s).slot i =
    if (j.params.kind = .verify ∧ stationCovers w.1 (s.station w.1) w.2 j.params.indenter = true) ∨
      (j.params.kind = .offsetCal ∧ j.params.objective = w.1) then { s.slot i with acc := {} } else s.slot i := by
  have hfirst := slot_restartWhere_of_job (i := i) (j := j)
    (s := lapseWhere (fun e => stationCovers w.1 (s.station w.1) w.2 e.station) (s.setStation w.1 w.2))
    (fun q => q.kind = .verify && stationCovers w.1 (s.station w.1) w.2 q.indenter) hj
  have hbase : (lapseWhere (fun e => stationCovers w.1 (s.station w.1) w.2 e.station) (s.setStation w.1 w.2)).slot i =
      s.slot i := rfl
  rw [hbase] at hfirst
  have hjob : ((restartWhere (fun q => q.kind = .verify && stationCovers w.1 (s.station w.1) w.2 q.indenter)
      (lapseWhere (fun e => stationCovers w.1 (s.station w.1) w.2 e.station) (s.setStation w.1 w.2))).slot i).job =
      some j := by
    rw [hfirst]; split <;> exact hj
  have hsecond := slot_restartWhere_of_job (fun q => q.kind = .offsetCal && q.objective = w.1) hjob
  rw [hfirst] at hsecond
  refine Eq.trans hsecond ?_
  simp only [Bool.and_eq_true, decide_eq_true_eq]
  by_cases hverify : j.params.kind = .verify ∧ stationCovers w.1 (s.station w.1) w.2 j.params.indenter = true
  · rw [if_pos hverify, if_pos (Or.inl hverify)]
    split <;> rfl
  · rw [if_neg hverify]
    simp only [hverify, false_or]

end

/-- Settles O20. -/
theorem stationWriteLapses : Obligations.StationWriteLapses := by
  unfold Obligations.StationWriteLapses
  intro p n new s hp hw hb
  obtain ⟨t, hexec, hframe, hanswer, hkept⟩ := write_taken (effect := stationWrite) (lapsed := stationLapsed) hp hw hb
    rfl rfl
  refine ⟨t, hexec, ?_, ?_, ?_, fun k hk => ?_, ?_, fun i j hj => ?_, hanswer, hkept⟩
  · rw [hframe]; rfl
  · rw [hframe]; rfl
  · rw [hframe]; exact station_setStation_same n new
  · rw [hframe]; exact station_setStation_ne hk new
  · rw [hframe]; rfl
  · rw [hframe]; exact slot_stationWrite (n, new) hj

/-- Settles O21. -/
theorem theOtherWritesReplace : Obligations.TheOtherWritesReplace := by
  unfold Obligations.TheOtherWritesReplace
  intro p s hb
  refine ⟨fun w hp hw => ?_, fun w hp hw => ?_, fun v hp hv => ?_⟩
  · obtain ⟨t, hexec, hframe, hanswer, hkept⟩ := write_taken (effect := forceCurveWrite)
      (lapsed := fun _ s => lapsedBy (fun _ => true) s) hp hw hb rfl rfl
    refine ⟨t, hexec, ?_, fun i j hj => ?_, hanswer, hkept⟩
    · rw [hframe]; rfl
    · rw [hframe]
      exact slot_lapseAll (s := { s with
        cal := { s.cal with curve := w.1, depthZero := w.2.1, depthScale := w.2.2 } }) hj
  · exact write_taken (effect := conversionWrite) (lapsed := fun _ _ => 0) hp hw hb rfl rfl
  · have heffect : settingsWrite v (takeCommand p s) = { settingsWrite v s with ports := (takeCommand p s).ports } := by
      by_cases hk : v.edgeLevel = s.settings.edgeLevel
      · rw [show settingsWrite v s = { s with settings := v } from if_pos hk]
        exact if_pos hk
      · rw [show settingsWrite v s = lapseAll { s with settings := v } from if_neg hk]
        exact if_neg hk
    obtain ⟨t, hexec, hframe, hanswer, hkept⟩ := write_taken (lapsed := settingsLapsed) hp hv hb heffect rfl
    refine ⟨t, hexec, ?_, fun hk => ?_, fun hk => ?_, hanswer, hkept⟩
    · by_cases hk : v.edgeLevel = s.settings.edgeLevel
      · rw [settingsWrite, if_pos hk] at hframe
        rw [hframe]
      · rw [settingsWrite, if_neg hk] at hframe
        rw [hframe]; rfl
    · rw [settingsWrite, if_pos hk] at hframe
      rw [hframe]; exact ⟨rfl, rfl⟩
    · rw [settingsWrite, if_neg hk] at hframe
      rw [hframe]
      exact ⟨rfl, fun i j hj => slot_lapseAll (s := { s with settings := v }) hj⟩

/-! ## The reads -/

theorem stationPayload_length (r : StationRec) : (stationPayload r).length = 49 := by
  cases r with
  | empty => simp [stationPayload, indenterBytes, objectiveBytes, optBytes]
  | indenter i => simp [stationPayload, indenterBytes, objectiveBytes, optBytes]
  | objective o =>
    cases hf : o.fallback <;> simp [stationPayload, indenterBytes, objectiveBytes, optBytes, hf]

/-- Entries of one length add up. -/
theorem flatMap_length_of_const {α β : Type} {f : α → List β} {k : Nat} (h : ∀ a, (f a).length = k) (l : List α) :
    (l.flatMap f).length = k * l.length := by
  induction l with
  | nil => rfl
  | cons a l ih => rw [List.flatMap_cons, List.length_append, h, ih, List.length_cons]; ring

theorem forceCurvePayload_length (c : Calibration) : (forceCurvePayload c).length = 5 + 6 * c.curve.length := by
  have hpoints := flatMap_length_of_const (f := fun pt : Int × Int => i16 pt.1 ++ i32 pt.2) (k := 6) (by simp) c.curve
  simp only [forceCurvePayload, List.length_append, hpoints, u8_length, i16_length, u16_length]
  omega

theorem conversionPayload_length (c : Calibration) : (conversionPayload c).length = 2 + 8 * c.convPoints.length := by
  have hpoints := flatMap_length_of_const (f := fun pt : Int × Int => i32 pt.1 ++ i32 pt.2) (k := 8) (by simp) c.convPoints
  simp only [conversionPayload, List.length_append, hpoints, u8_length]

theorem verifyTablePayload_length (v : VerifTable) (interval : Nat) :
    (verifyTablePayload v interval).length = 7 + 17 * v.entries.length := by
  have hentries := flatMap_length_of_const (f := verifEntryBytes) (k := 17) (by simp [verifEntryBytes]) v.entries
  simp only [verifyTablePayload, List.length_append, hentries, u8_length, u16_length, u32_length]

theorem settingsPayload_length (v : Settings) : (settingsPayload v).length = 12 := by simp [settingsPayload]

/-- A read as the statements see it, with the length of its payload. -/
theorem read_answers {p : Port} {code : Word16} {s : State} {body : List Byte → State → State × Reply} {bytes : List Byte}
    {n : Nat} (h : s.posted p code = true) (hbody : body (s.blockOf p) (takeCommand p s) = (takeCommand p s, .ok bytes))
    (hlength : bytes.length = n) :
    ∃ t, (Host.Outcome.next (runCommand code p body s) : Host.Outcome State Fault Refusal) = .next t ∧
      OnlyAnswered p (.ok bytes) s t ∧ bytes.length = n := by
  obtain ⟨t, hexec, hdone⟩ := onlyAnswered_of_same h hbody
  exact ⟨t, hexec, hdone, hlength⟩

/-- Settles O23. -/
theorem readsAnswerTheTables : Obligations.ReadsAnswerTheTables := by
  unfold Obligations.ReadsAnswerTheTables
  intro p s
  refine ⟨fun n hp hn => ?_, fun hp hn => ?_, fun hp => ?_, fun hp => ?_, fun hp => ?_, fun hp => ?_⟩
  · refine read_answers hp ?_ (stationPayload_length _)
    simp only [stationReadBody, hn]
    rfl
  · have hnone : stationAt (s.blockOf p) 0 = none := dif_neg (by omega)
    exact onlyAnswered_of_same hp (by simp only [stationReadBody, hnone])
  · exact read_answers hp rfl (forceCurvePayload_length _)
  · exact read_answers hp rfl (conversionPayload_length _)
  · exact read_answers hp rfl (verifyTablePayload_length _ _)
  · exact read_answers hp rfl (settingsPayload_length _)

/-! ## The settings read back (R176) -/

theorem readU_append_of_le {pre rest : List Byte} {off k : Nat} (h : pre.length ≤ off) :
    readU (pre ++ rest) off k = readU rest (off - pre.length) k := by
  rw [readU, readU, List.drop_append, List.drop_eq_nil_of_le h, List.nil_append]

theorem readU_bytesLE {n v : Nat} (rest : List Byte) (h : v < 256 ^ n) : readU (bytesLE n v ++ rest) 0 n = v := by
  have htake : (bytesLE n v ++ rest).take n = bytesLE n v := by
    rw [List.take_append_of_le_length (by simp), List.take_of_length_le (by simp)]
  rw [readU, List.drop_zero, htake, natLE_bytesLE n v h]

theorem inRange_of_mem {lo hi v : Nat} (h : lo ≤ v) (h' : v ≤ hi) : inRange lo hi v = some v := if_pos ⟨h, h'⟩

/-- The fields of a settings block, read at their offsets. -/
theorem settingsPayload_fields (v : Settings) (rest : List Byte) (hsettle : v.settleTimeout < 256)
    (hprescale : v.round.prescale < 256) (hperiod : v.round.period < 65536) (hn : v.round.n < 256)
    (hedge : v.edgeLevel < 256) (hcontrast : v.minContrast < 256) (hinterval : v.interval < 65536) :
    let blk := settingsPayload v ++ rest
    readU blk 0 1 = portNum v.stagePort ∧ readU blk 1 1 = (if v.rotationOn then 0 else 1) ∧
    readU blk 2 1 = v.settleTimeout ∧ readU blk 3 1 = v.round.prescale ∧ readU blk 4 2 = v.round.period ∧
    readU blk 6 1 = v.round.n ∧ readU blk 7 1 = cameraCode v.camera ∧ readU blk 8 1 = v.edgeLevel ∧
    readU blk 9 1 = v.minContrast ∧ readU blk 10 2 = v.interval := by
  have hport : portNum v.stagePort < 256 := by cases v.stagePort <;> decide
  have hcamera : cameraCode v.camera < 256 := by cases v.camera <;> decide
  have hrotation : (if v.rotationOn then 0 else 1) < 256 := by split <;> decide
  simp only [settingsPayload, List.append_assoc]
  refine ⟨?_, ?_, ?_, ?_, ?_, ?_, ?_, ?_, ?_, ?_⟩
  · exact readU_bytesLE _ hport
  all_goals simp (disch := simp) only [readU_append_of_le, u8_length, u16_length, Nat.reduceSub]
  · exact readU_bytesLE _ hrotation
  · exact readU_bytesLE _ hsettle
  · exact readU_bytesLE _ hprescale
  · exact readU_bytesLE _ hperiod
  · exact readU_bytesLE _ hn
  · exact readU_bytesLE _ hcamera
  · exact readU_bytesLE _ hedge
  · exact readU_bytesLE _ hcontrast
  · exact readU_bytesLE _ hinterval

theorem portAt_of_portNum {blk : List Byte} {q : Port} (h : readU blk 0 1 = portNum q) : portAt blk 0 = some q := by
  simp only [portAt, h]
  cases q <;> rfl

/-- Settles O24. -/
theorem settingsPayloadReadsBack : Obligations.SettingsPayloadReadsBack := by
  unfold Obligations.SettingsPayloadReadsBack
  intro v rest hs1 hs2 hpre hp1 hp2 hn1 hn2 he1 he2 hc1 hc2 hi
  obtain ⟨hport, hrotation, hsettle, hprescale, hperiod, hn, hcamera, hedge, hcontrast, hinterval⟩ :=
    settingsPayload_fields v rest (by omega) (by omega) (by omega) (by omega) (by omega) (by omega) (by omega)
  generalize settingsPayload v ++ rest = blk at hport hrotation hsettle hprescale hperiod hn hcamera hedge hcontrast hinterval
  have hrot : boolAt blk 1 = some (!v.rotationOn) := by
    rw [boolAt, byteIn, hrotation]
    cases v.rotationOn <;> rfl
  have hten : boolAt blk 7 = some (decide (v.camera = .bits10)) := by
    rw [boolAt, byteIn, hcamera]
    cases v.camera <;> rfl
  have hpresc : (byteIn blk 3 1 16).filter (fun x => x = 1 || x = 4 || x = 16) = some v.round.prescale := by
    rw [byteIn, hprescale]
    rcases hpre with h | h | h <;> rw [h] <;> rfl
  have hcam : (if (decide (v.camera = .bits10)) = true then CameraMode.bits10 else .bits8) = v.camera := by
    cases v.camera <;> rfl
  simp only [settingsParams, portAt_of_portNum hport, hrot, byteIn, hsettle, inRange_of_mem hs1 hs2, hperiod,
    inRange_of_mem hp1 hp2, hn, inRange_of_mem hn1 hn2, hten, hedge, inRange_of_mem he1 he2, hcontrast,
    inRange_of_mem hc1 hc2, hinterval]
  rw [byteIn] at hpresc
  simp only [hpresc, Option.bind_eq_bind, Option.bind_some, hcam, Bool.not_not]
  rfl

end Sys2Proof.Machine
end

section
/-! PROOFS. The step (log entry 1), control-word writes (R189), the attention pulses (R197), the STOP line's release and
ARB_SET_LAST (R28). -/

namespace Sys2Proof.Machine

/-! ## The step -/

/-- Settles O1. -/
theorem stepRunsFrontCommand : Obligations.StepRunsFrontCommand := by
  unfold Obligations.StepRunsFrontCommand
  intro c q s hq
  simp only [step, hq]

section
variable {s : State}

theorem step_of_idle (h : s.pending = []) : step s = .next (tick s) := by simp only [step, h]

/-- A sub-step of a measurement leaves the last summary and the request (R119). -/
theorem advanceMeasure_summary (s : State) : (advanceMeasure s).meas.summary = s.meas.summary := by
  unfold advanceMeasure
  split
  · rfl
  · split
    · split <;> rfl
    · rfl

theorem advanceMeasure_req (s : State) : (advanceMeasure s).meas.run.map MeasRun.req = s.meas.run.map MeasRun.req := by
  unfold advanceMeasure
  split
  · rfl
  next r hr =>
    split
    · split
      · rw [hr]; rfl
      · rfl
    · rfl

theorem tick_frame (s : State) : tick s = { s with
    act := actuatorMs s.act, meas := (tick s).meas, freeCount := s.freeCount + 1 } := by
  simp only [tick]
  rw [advanceMeasure_frame]
  rfl

theorem actuatorMs_of_dwelling {a : Actuator} (h : a.state = .dwelling) :
    actuatorMs a = { a with dwellMs := a.dwellMs + 1 } := by
  simp only [actuatorMs, h]

/-- The loading target follows the ramp of R94. -/
theorem actuatorMs_of_loading {a : Actuator} {p : IndentParams} {c : Int} (h : a.state = .loading)
    (hp : a.params = some p) (hc : a.contactForce = some c) : actuatorMs a = { a with
      rampMs := a.rampMs + 1, target := some (rampTarget c p.force (a.rampMs + 1) (p.loadTime * 100)) } := by
  simp only [actuatorMs, h, rampNow, hp, hc]

theorem actuatorMs_of_other {a : Actuator} (hl : a.state ≠ .loading) (hd : a.state ≠ .dwelling) : actuatorMs a = a := by
  unfold actuatorMs
  split
  next h => exact absurd h hl
  next h => exact absurd h hd
  next => rfl

end

/-- Settles O2. -/
theorem idleStepIsOneMillisecond : Obligations.IdleStepIsOneMillisecond := by
  unfold Obligations.IdleStepIsOneMillisecond
  intro s hq
  have hact : (tick s).act = actuatorMs s.act := by rw [tick_frame]
  refine ⟨tick s, step_of_idle hq, ?_, fun h => ?_, fun h p c hp hc => ?_, fun hl hd => ?_,
    advanceMeasure_summary (onAct actuatorMs s), advanceMeasure_req (onAct actuatorMs s)⟩
  · rw [hact]; exact tick_frame s
  · rw [hact, actuatorMs_of_dwelling h]
  · rw [hact, actuatorMs_of_loading h hp hc]; rfl
  · rw [hact, actuatorMs_of_other hl hd]

/-! ## Control-word writes -/

section
variable {p : Port} {tag b : Byte} {code : Word16} {s : State}

theorem controlWrite_of_empty (h : (s.mailbox p).state = .empty) : controlWrite p 1 tag code s =
    s.setMailbox p { s.mailbox p with state := .posted, tag := tag, code := code } := by
  simp only [controlWrite, h]
  rfl

theorem controlWrite_of_posted (h : (s.mailbox p).state = .posted) :
    controlWrite p 0 tag code s = s.setMailbox p { s.mailbox p with state := .empty } := by
  simp only [controlWrite, h]
  rfl

theorem controlWrite_of_answered (h : (s.mailbox p).state = .answered) :
    controlWrite p 0 tag code s = s.setMailbox p { s.mailbox p with state := .empty } := by
  simp only [controlWrite, h]
  rfl

/-- Any other write leaves the control word (R189). -/
theorem controlWrite_ignored (hpost : ¬ (b = 1 ∧ (s.mailbox p).state = .empty))
    (hclear : ¬ (b = 0 ∧ ((s.mailbox p).state = .posted ∨ (s.mailbox p).state = .answered))) :
    controlWrite p b tag code s = s := by
  simp only [controlWrite]
  split
  next hs hb => exact absurd ⟨BitVec.eq_of_toNat_eq hb, hs⟩ hpost
  next hs hb => exact absurd ⟨BitVec.eq_of_toNat_eq hb, .inl hs⟩ hclear
  next hs hb => exact absurd ⟨BitVec.eq_of_toNat_eq hb, .inr hs⟩ hclear
  next => rfl

/-- One mailbox written, as the statements see it. -/
theorem setMailbox_done {m : Mailbox} {u : State} (h : u = s.setMailbox p m) :
    ∃ t, (Host.Outcome.next u : Host.Outcome State Fault Refusal) = .next t ∧ t = { s with ports := t.ports } ∧
      OthersKept p s t ∧ t.mailbox p = m :=
  ⟨u, rfl, by rw [h]; rfl, by rw [h]; exact othersKept_setMailbox p m s, by rw [h]; exact mailbox_setMailbox s p m⟩

end

/-- Settles O31. -/
theorem controlWordWrites : Obligations.ControlWordWrites := by
  unfold Obligations.ControlWordWrites
  intro p tag code s
  refine ⟨fun h => setMailbox_done (controlWrite_of_empty h), fun h => ?_, fun h => ?_,
    fun h => setMailbox_done (controlWrite_of_answered h), fun b hpost hclear => ?_⟩
  · exact setMailbox_done ((if_pos h).trans (controlWrite_of_posted h))
  · exact congrArg Host.Outcome.next (if_neg h)
  · exact congrArg Host.Outcome.next (controlWrite_ignored hpost hclear)

/-- Settles O34. -/
theorem linesEndAndStart : Obligations.LinesEndAndStart := by
  unfold Obligations.LinesEndAndStart
  intro p s
  refine ⟨rfl, fun h => setMailbox_done (if_pos h), fun hs ha => ?_, fun h => ?_, fun h => ?_⟩
  · exact setMailbox_done (if_pos ⟨hs, by simp [ha]⟩)
  · exact congrArg Host.Outcome.next (if_neg (by simp [h]))
  · exact congrArg Host.Outcome.next (if_neg (by simp [h]))

/-! ## ARB_SET_LAST -/

theorem rotationBytes_eq (l : List Port) : rotationBytes l = l.map fun x => BitVec.ofNat 8 (portNum x) := by
  induction l with
  | nil => rfl
  | cons q l ih =>
    simp only [rotationBytes, List.flatMap_cons, List.map_cons] at ih ⊢
    rw [ih]
    rfl

/-- The port that is last already stays there. -/
theorem moveLast_of_last {q : Port} {l : List Port} (hl : l.Nodup) (h : l.getLast? = some q) : moveLast q l = l := by
  obtain ⟨init, rfl⟩ := List.getLast?_eq_some_iff.mp h
  have hnot : q ∉ init := fun hq => (List.nodup_append.mp hl).2.2 q hq q (List.mem_singleton.mpr rfl) rfl
  have hinit : init.filter (· ≠ q) = init :=
    List.filter_eq_self.mpr fun x hx => decide_eq_true fun heq => hnot (heq ▸ hx)
  rw [moveLast, List.filter_append, hinit]
  simp

theorem portAt_of_beyond {blk : List Byte} (h : 2 < readU blk 0 1) : portAt blk 0 = none := by
  unfold portAt
  split
  · omega
  · omega
  · omega
  · rfl

/-- Settles O28. -/
theorem arbSetLastMovesThePort : Obligations.ArbSetLastMovesThePort := by
  unfold Obligations.ArbSetLastMovesThePort
  intro p s hp
  refine ⟨fun h => onlyAnswered_of_same hp (by simp only [arbSetLastBody, portAt_of_beyond h]), fun q hq => ?_⟩
  have hbody : arbSetLastBody (s.blockOf p) (takeCommand p s) =
      ({ ({ s with arb := { s.arb with rotation := moveLast q s.arb.rotation } } : State) with
        ports := (takeCommand p s).ports },
        .ok ((moveLast q s.arb.rotation).map fun x => BitVec.ofNat 8 (portNum x))) := by
    simp only [arbSetLastBody, portAt_of_portNum hq, ← rotationBytes_eq]
    rfl
  have hrun := runCommand_of_changed (u := { s with arb := { s.arb with rotation := moveLast q s.arb.rotation } }) hp hbody
  refine ⟨_, congrArg Host.Outcome.next hrun, rfl, rfl, fun hwf hlast => ?_, answeredWith_ports, othersKept_ports,
    fun u hu => ?_⟩
  · have hnodup : s.arb.rotation.Nodup := ((rotationWf_iff s).mp hwf).nodup_iff.mpr (by decide)
    exact moveLast_of_last hnodup hlast
  · rw [State.portOrder, hu]
    rfl

end Sys2Proof.Machine
end

section
/-! PROOFS. The actuator's and the turret's coming to rest (R74, R78, R89, R90, R97) as equations; HEAD_RESUME, RESET, the top
limit and the start of VIEWING. -/

namespace Sys2Proof.Machine

/-! ## At rest -/

section
variable {s : State}

theorem startHeld_of_none (h : s.act.held = none) : startHeld s = s := by simp only [startHeld, h]

/-- An actuator RETRACTED, with no timer and no requester (R89). -/
def Actuator.rest (a : Actuator) : Actuator := { a with state := .retracted, stallTimer := false, requester := none }

theorem homingRequest_of_rest (ha : s.act.state = .retracted) (ht : s.turret.moving = false) : homingRequest s = { s with
    turret := { s.turret with state := .homing { phase := .search (!s.pins.sensor), searched := 0 }, gated := 0 } } := by
  have hnone : homingRefusal s = none := by simp [homingRefusal, ha, ht]
  simp only [homingRequest, hnone]

theorem becomeRetracted_of_nobody (hr : s.act.requester = none) (hheld : s.act.held = none) :
    becomeRetracted s = { s with act := s.act.rest } := by
  simp only [becomeRetracted, hr, reportRetracted]
  exact startHeld_of_none (s := { s with act := s.act.rest }) hheld

/-- Retracted for the arbiter in start-up or recovery: the homing starts (R21, R35). -/
theorem becomeRetracted_of_arbiter {a : Asked} (hr : s.act.requester = some (.arbiter, a)) (hheld : s.act.held = none)
    (hh : s.arb.head = .unready ∨ s.arb.head = .recovering) (ht : s.turret.moving = false) :
    becomeRetracted s = { s with
      act := s.act.rest
      turret := { s.turret with
        state := .homing { phase := .search (!s.pins.sensor), searched := 0 }, gated := 0 } } := by
  have hhome : arbiterRetracted { s with act := s.act.rest } = { s with
      act := s.act.rest
      turret := { s.turret with
        state := .homing { phase := .search (!s.pins.sensor), searched := 0 }, gated := 0 } } := by
    rw [← homingRequest_of_rest (s := { s with act := s.act.rest }) rfl ht]
    rcases hh with hh | hh <;> simp only [arbiterRetracted, hh]
  simp only [becomeRetracted, hr, reportRetracted]
  refine (congrArg startHeld hhome).trans ?_
  exact startHeld_of_none (s := { s with
    act := s.act.rest
    turret := { s.turret with
      state := .homing { phase := .search (!s.pins.sensor), searched := 0 }, gated := 0 } }) hheld

/-- Retracted for the cycle controller (R46, R56). -/
theorem becomeRetracted_of_cycle {a : Asked} {u : State} (hr : s.act.requester = some (.cycle, a))
    (hu : cycleRetracted { s with act := s.act.rest } = u) (hheld : u.act.held = none) : becomeRetracted s = u := by
  simp only [becomeRetracted, hr, reportRetracted]
  exact (congrArg startHeld hu).trans (startHeld_of_none hheld)

theorem enterRetracting_of_below (h : s.pins.topLimit = false) : enterRetracting s = { s with
    act := { s.act with state := .retracting, stallTimer := true, loadTimer := false, dwellTimer := false } } :=
  if_neg (Bool.eq_false_iff.mp h)

/-- The actuator once a motion of the turret has ended (R90). -/
def landed (s : State) : Actuator :=
  if s.turret.moving = true ∧ s.act.state = .retracted ∧ s.pins.topLimit = false then
    { s.act with state := .retracting, stallTimer := true, requester := none }
  else s.act

theorem abandonMotion_of_still (h : s.turret.moving = false) : abandonMotion s = s := if_neg (Bool.eq_false_iff.mp h)

/-- A turret motion in progress, or none, with no indent held (R78, R90). -/
theorem abandonMotion_of_free (hheld : s.act.held = none) : abandonMotion s = { s with
    turret := if s.turret.moving then { s.turret with state := .unknown } else s.turret, act := landed s } := by
  by_cases hm : s.turret.moving = true
  · have hstart : startHeld (setTurret .unknown s.turret.lastSub s) = setTurret .unknown s.turret.lastSub s :=
      startHeld_of_none (s := setTurret .unknown s.turret.lastSub s) hheld
    rw [abandonMotion, if_pos hm, if_pos hm, turretAtRest, landed]
    by_cases ha : s.act.state = .retracted
    · rw [if_pos (show (setTurret .unknown s.turret.lastSub s).act.state = .retracted from ha)]
      cases htop : s.pins.topLimit with
      | true =>
        rw [if_pos (show (setTurret .unknown s.turret.lastSub s).pins.topLimit = true from htop), hstart,
          if_neg (by simp)]
        rfl
      | false =>
        rw [if_neg (show ¬ (setTurret .unknown s.turret.lastSub s).pins.topLimit = true by simp [setTurret, htop]),
          if_pos ⟨hm, ha, rfl⟩]
        rfl
    · rw [if_neg (show ¬ (setTurret .unknown s.turret.lastSub s).act.state = .retracted from ha),
        if_neg fun h => ha h.2.1]
      rfl
  · rw [abandonMotion_of_still (Bool.eq_false_iff.mpr hm), if_neg hm, landed, if_neg fun h => hm h.1]

end

/-! ## HEAD_RESUME (R34, R35) -/

/-- Settles O27. -/
theorem headResumeRecovers : Obligations.HeadResumeRecovers := by
  unfold Obligations.HeadResumeRecovers
  intro p s hp hd
  have hsettled : ∀ {r : Reply} {u : State}, u.arb.due = false →
      headResumeBody (s.blockOf p) (takeCommand p s) = ({ u with ports := (takeCommand p s).ports }, r) →
      ∃ t, exec (.headResume p) s = .next t ∧ t = { u with ports := t.ports } ∧ AnsweredWith p r s t ∧
        OthersKept p s t := fun {r u} hdue hbody => by
    have hrun := runCommand_of_changed (u := u) hp hbody
    refine ⟨_, ?_, rfl, answeredWith_ports (p := p) (r := r) (s := s) (u := u), othersKept_ports⟩
    show execHeadResume p s = _
    rw [execHeadResume, hrun, settle_of_not_due (s := { u with ports := answeredPorts p r s }) hdue]
  have hbody : s.arb.head = .halted → s.pins.stopLine = false → headResumeBody (s.blockOf p) (takeCommand p s) =
      (beginRecovery (takeCommand p s), .ok (u8 5)) := fun hh hl =>
    (if_neg (not_not.mpr hh)).trans (if_neg (Bool.eq_false_iff.mp hl))
  refine ⟨fun hh => ?_, fun hh hl => ?_, fun hh hl ha ht => ?_, fun hh hl ha htop => ?_⟩
  · obtain ⟨t, hexec, hdone⟩ := hsettled (u := s) hd (if_pos hh)
    exact ⟨t, hexec, hdone⟩
  · obtain ⟨t, hexec, hdone⟩ := hsettled (u := s) hd ((if_neg (not_not.mpr hh)).trans (if_pos hl))
    exact ⟨t, hexec, hdone⟩
  · refine hsettled (u := { s with
      arb := { s.arb with head := .recovering }
      act := { s.act with held := none, stallTimer := false, requester := none }
      turret := { s.turret with
        state := .homing { phase := .search (!s.pins.sensor), searched := 0 }, gated := 0 } }) hd ?_
    have hrec := becomeRetracted_of_arbiter (a := .retract) (s := { takeCommand p s with
      arb := { s.arb with head := .recovering }
      act := { s.act with requester := some (.arbiter, .retract), held := none } }) rfl rfl (.inr rfl) ht
    have hbegin : beginRecovery (takeCommand p s) = becomeRetracted { takeCommand p s with
        arb := { s.arb with head := .recovering }
        act := { s.act with requester := some (.arbiter, .retract), held := none } } := by
      have ha' : (takeCommand p s).act.state = .retracted := ha
      simp only [beginRecovery, retractRequest, ha']
      rfl
    rw [hbody hh hl, hbegin, hrec]
    simp only [Actuator.rest, ← ha]
    rfl
  · refine hsettled (u := { s with
      arb := { s.arb with head := .recovering }
      act := { s.act with
        state := .retracting, held := none, requester := some (.arbiter, .retract), stallTimer := true
        loadTimer := false, dwellTimer := false } }) hd ?_
    have hrec := enterRetracting_of_below (s := { takeCommand p s with
      arb := { s.arb with head := .recovering }
      act := { s.act with requester := some (.arbiter, .retract), held := none } }) htop
    have hbegin : beginRecovery (takeCommand p s) = enterRetracting { takeCommand p s with
        arb := { s.arb with head := .recovering }
        act := { s.act with requester := some (.arbiter, .retract), held := none } } := by
      have ha' : (takeCommand p s).act.state = .stalled := ha
      simp only [beginRecovery, retractRequest, ha']
      rfl
    rw [hbody hh hl, hbegin, hrec]
    rfl

/-! ## RESET (R20, R21, R89) -/

/-- The reset state with its pins and the model's own fields. -/
theorem afterReset_retracted (s : State) : becomeRetracted (cleared s) = { cleared s with
    act := State.reset.act.rest
    turret := { State.reset.turret with state := .homing { phase := .search (!s.pins.sensor), searched := 0 } } } :=
  becomeRetracted_of_arbiter (s := cleared s) (a := .retract) rfl rfl (.inl rfl) rfl

/-- A STOP taken in UNREADY, with no indent held (R32, R78). -/
theorem takeStop_of_unready {s : State} (hh : s.arb.head = .unready) :
    takeStop s = haltHead (abandonMotion (recordFault .stop none s)) := by
  simp only [takeStop, hh]

theorem recordFault_stop (s : State) : recordFault .stop none s = storeFault (faultRecordNow .stop none s) s := rfl

/-- The record of a STOP line that is asserted at the end of reset. -/
def stopAtReset : FaultRecord := { code := .stop, sub := none, head := .unready, point := none }

/-- The STOP taken at the end of reset (R21). -/
theorem takeStop_at_reset {u : State} (harb : u.arb = {}) (hheld : u.act.held = none) (hports : u.ports = ⟨{}, {}, {}⟩)
    (hpoints : u.points = []) (hland : landed u = u.act) : takeStop u = { u with
      turret := if u.turret.moving then { u.turret with state := .unknown } else u.turret
      arb := { State.reset.arb with head := .halted, first := some stopAtReset, last := some stopAtReset } } := by
  have hhead : u.arb.head = .unready := by rw [harb]
  have hpoint : u.grantedPoint = none := by rw [State.grantedPoint, hpoints]; rfl
  have hfault : recordFault .stop none u =
      { u with arb := { ({} : Arbiter) with first := some stopAtReset, last := some stopAtReset } } := by
    rw [recordFault_stop, storeFault, faultRecordNow, hpoint, harb]
    rfl
  have hmotion := abandonMotion_of_free
    (s := { u with arb := { ({} : Arbiter) with first := some stopAtReset, last := some stopAtReset } }) hheld
  have hl : landed { u with arb := { ({} : Arbiter) with first := some stopAtReset, last := some stopAtReset } } = u.act :=
    hland
  rw [takeStop_of_unready hhead, hfault, hmotion, haltHead_of_not_halted (by exact (nomatch ·)), hl]
  simp only [hports]
  rfl

/-- Settles O35. -/
theorem resetClears : Obligations.ResetClears := by
  unfold Obligations.ResetClears
  intro s
  have hdone : ∀ {u : State}, afterReset (cleared s) = u → u.arb.due = false → exec .reset s = .next u :=
    fun {u} hu hdue => by
      show execReset s = _
      rw [execReset, hu, settle_of_not_due hdue]
  cases htop : s.pins.topLimit with
  | false =>
    cases hline : s.pins.stopLine with
    | false =>
      refine hdone ?_ rfl
      simp only [afterReset, show (cleared s).pins.topLimit = false from htop,
        show (cleared s).pins.stopLine = false from hline, Bool.false_eq_true, if_false, false_and]
      rfl
    | true =>
      refine hdone ?_ rfl
      have hland : landed (cleared s) = (cleared s).act := if_neg fun h => nomatch h.1
      simp only [afterReset, show (cleared s).pins.topLimit = false from htop,
        show (cleared s).pins.stopLine = true from hline, Bool.false_eq_true, if_false, if_true, false_and]
      rw [takeStop_at_reset (u := cleared s) rfl rfl rfl rfl hland]
      rfl
  | true =>
    cases hline : s.pins.stopLine with
    | false =>
      refine hdone ?_ rfl
      simp only [afterReset, show (cleared s).pins.topLimit = true from htop,
        show (cleared s).pins.stopLine = false from hline, Bool.false_eq_true, if_false, if_true, not_false_eq_true,
        and_self]
      exact afterReset_retracted s
    | true =>
      refine hdone ?_ rfl
      have hland : landed { cleared s with
          act := State.reset.act.rest
          turret := { State.reset.turret with
            state := .homing { phase := .search (!s.pins.sensor), searched := 0 } } } = State.reset.act.rest :=
        if_neg fun h => Bool.noConfusion (htop.symm.trans h.2.2)
      simp only [afterReset, show (cleared s).pins.topLimit = true from htop,
        show (cleared s).pins.stopLine = true from hline, if_false, if_true, not_true_eq_false, and_false]
      rw [afterReset_retracted, takeStop_at_reset rfl rfl rfl rfl hland]
      rfl

/-! ## The top limit (R89, R90) -/

/-- Settles O36. -/
theorem topLimitMovesTheActuator : Obligations.TopLimitMovesTheActuator := by
  unfold Obligations.TopLimitMovesTheActuator
  intro s hd
  have hon : s.act.state = .retracting → topLimitOn s = becomeRetracted { s with pins := { s.pins with topLimit := true } } :=
    fun ha => if_pos ha
  refine ⟨fun ha hheld ht => ⟨fun hr => ?_, fun a hr hh => ?_⟩, fun ha => ?_, ?_⟩
  · show execTopLimitActive s = _
    rw [execTopLimitActive, hon ha, becomeRetracted_of_nobody (s := { s with pins := { s.pins with topLimit := true } }) hr
      hheld]
    refine (congrArg Host.Outcome.next (settle_of_not_due (s := { s with
      pins := { s.pins with topLimit := true }, act := s.act.rest }) hd)).trans ?_
    rw [Actuator.rest, ← hr]
  · show execTopLimitActive s = _
    rw [execTopLimitActive, hon ha, becomeRetracted_of_arbiter (s := { s with pins := { s.pins with topLimit := true } }) hr
      hheld hh ht]
    exact congrArg Host.Outcome.next (settle_of_not_due (s := { s with
      pins := { s.pins with topLimit := true }, act := s.act.rest
      turret := { s.turret with
        state := .homing { phase := .search (!s.pins.sensor), searched := 0 }, gated := 0 } }) hd)
  · show execTopLimitActive s = _
    rw [execTopLimitActive, topLimitOn, if_neg ha]
    exact congrArg Host.Outcome.next (settle_of_not_due (s := { s with pins := { s.pins with topLimit := true } }) hd)
  · show execTopLimitLost s = _
    by_cases h : s.act.state = .retracted ∧ s.turret.moving = false
    · rw [execTopLimitLost, topLimitOff, if_pos (by simp [h.1, h.2]), if_pos h]
      exact congrArg Host.Outcome.next (settle_of_not_due (s := { s with
        pins := { s.pins with topLimit := false }
        act := { s.act with state := .retracting, stallTimer := true, requester := none } }) hd)
    · rw [execTopLimitLost, topLimitOff, if_neg (by simpa using h), if_neg h]
      exact congrArg Host.Outcome.next (settle_of_not_due (s := { s with pins := { s.pins with topLimit := false } }) hd)

/-! ## Asking the stage and the turret (R40, R44, R48, R68, R70) -/

section
variable {s : State}

theorem askStage_eq (kind : OrderKind) (x y : Int) : askStage kind x y s = { s with
    ports := (raiseTerm s.settings.stagePort s).ports
    stage := {
      lastSeq := s.stage.lastSeq + 1, settleTimer := true
      order := some { seq := s.stage.lastSeq + 1, kind := kind, x := x, y := y, status := .pending } }
    cycle := { s.cycle with pendStage := true } } := rfl

theorem askTurret_of_here {n : Station} (h : s.turret.state = .parked n) : askTurret n s = s := by
  have hanswer : rotationAnswer s.turret.state n s.act.state = .completed := by simp [rotationAnswer, h]
  simp only [askTurret, hanswer]

theorem rotationAnswer_of_away {m n : Station} {a : ActState} (hne : m ≠ n) (ha : a = .retracted) :
    rotationAnswer (.parked m) n a = .accepted := by
  simp only [rotationAnswer, if_neg hne, if_pos ha]

theorem rotationRequest_of_away {m n : Station} {req : TurretReq} (h : s.turret.state = .parked m) (hne : m ≠ n)
    (ha : s.act.state = .retracted) : rotationRequest req n s = { s with
      turret := { s.turret with state := .rotating (startRotation m n req), gated := 0 } } := by
  simp only [rotationRequest, h, rotationAnswer_of_away hne ha]

theorem askTurret_of_away {m n : Station} (h : s.turret.state = .parked m) (hne : m ≠ n) (ha : s.act.state = .retracted) :
    askTurret n s = { s with
      turret := { s.turret with state := .rotating (startRotation m n .cycle), gated := 0 }
      cycle := { s.cycle with pendTurret := true } } := by
  rw [askTurret, rotationRequest_of_away h hne ha, h, rotationAnswer_of_away hne ha]
  rfl

/-- The turret asked for a station while it is PARKED and the actuator RETRACTED. -/
theorem askTurret_of_parked {m n : Station} (h : s.turret.state = .parked m) (ha : s.act.state = .retracted)
    (hpend : s.cycle.pendTurret = false) : askTurret n s = { s with
      turret := if m = n then s.turret else
        { s.turret with state := .rotating (startRotation m n .cycle), gated := 0 }
      cycle := { s.cycle with pendTurret := decide (m ≠ n) } } := by
  by_cases hmn : m = n
  · subst hmn
    have hcycle : { s.cycle with pendTurret := decide (m ≠ m) } = s.cycle := by
      rw [decide_eq_false (not_not.mpr rfl), ← hpend]
    rw [askTurret_of_here h, if_pos rfl, hcycle]
  · rw [askTurret_of_away h hmn ha, if_neg hmn, decide_eq_true hmn]

/-- The rotation of R70 from one station to another. -/
theorem startRotation_eq (m n : Station) (req : TurretReq) : startRotation m n req = {
    src := m, target := n, req := req, pos := 2400 * m.val
    dir := if (n.val + 6 - m.val) % 6 ≤ 3 then .cw else .ccw
    phase := .travel (if (n.val + 6 - m.val) % 6 ≤ 3 then 2400 * ((n.val + 6 - m.val) % 6) - 160
      else 2400 * (6 - (n.val + 6 - m.val) % 6) + 160)
    reading := (startRotation m n req).reading } := by
  have hsteps : travelSteps m n = if (n.val + 6 - m.val) % 6 ≤ 3 then 2400 * ((n.val + 6 - m.val) % 6) - 160
      else 2400 * (6 - (n.val + 6 - m.val) % 6) + 160 := by
    by_cases h : (n.val + 6 - m.val) % 6 ≤ 3 <;> simp [travelSteps, rotationDir, stationsClockwise, h, Config.strokeSteps]
  rw [← hsteps]
  rfl

/-- VIEWING entered with the turret PARKED and the actuator RETRACTED (R48). -/
theorem enterViewing_of_parked {g : Granted} {m n : Station} {o : Objective} (hg : s.cycle.granted = some g)
    (hn : s.cycle.objective = some n) (ho : s.station n = .objective o) (ht : s.turret.state = .parked m)
    (ha : s.act.state = .retracted) (hpend : s.cycle.pendTurret = false) : enterViewing s = { s with
      ports := (raiseTerm s.settings.stagePort s).ports
      stage := {
        lastSeq := s.stage.lastSeq + 1, settleTimer := true
        order := some {
          seq := s.stage.lastSeq + 1, kind := .viewPos, x := g.x + o.dx, y := g.y + o.dy, status := .pending } }
      cycle := { s.cycle with state := .viewing, pendStage := true, pendTurret := decide (m ≠ n) }
      turret := if m = n then s.turret else
        { s.turret with state := .rotating (startRotation m n .cycle), gated := 0 } } := by
  have hobj : s.objectiveOf n = o := by simp only [State.objectiveOf, ho]
  have henter : enterViewing s = askTurret n (askStage .viewPos (g.x + o.dx) (g.y + o.dy)
      (onCycle (fun c => { c with state := .viewing }) s)) := by
    simp only [enterViewing, hg, hn, hobj]
  rw [henter, askStage_eq, askTurret_of_parked (m := m) (by exact ht) (by exact ha) (by exact hpend)]
  rfl

end

/-- Settles O37. -/
theorem retractedAfterTheIndentStartsViewing : Obligations.RetractedAfterTheIndentStartsViewing := by
  unfold Obligations.RetractedAfterTheIndentStartsViewing
  intro g n m o a s ha hr hheld hs hpend hg hn ho ht hd
  have hview := enterViewing_of_parked (s := { s with
    pins := { s.pins with topLimit := true }, act := s.act.rest, cycle := { s.cycle with pendActuator := false } })
    hg hn ho ht rfl hpend
  have hcycle : cycleRetracted { s with pins := { s.pins with topLimit := true }, act := s.act.rest } =
      enterViewing { s with
        pins := { s.pins with topLimit := true }, act := s.act.rest
        cycle := { s.cycle with pendActuator := false } } := by
    simp only [cycleRetracted, hs, onCycle]
  have hret := becomeRetracted_of_cycle (s := { s with pins := { s.pins with topLimit := true } }) hr
    (hcycle.trans hview) hheld
  show execTopLimitActive s = _
  rw [execTopLimitActive, topLimitOn, if_pos ha, hret]
  refine (congrArg Host.Outcome.next (settle_of_not_due (by exact hd))).trans ?_
  rw [startRotation_eq m n .cycle]
  rfl

end Sys2Proof.Machine
end

section
/-! PROOFS. A decision that finds nothing (R24), a fault that halts the head (R32, R33), and the turret's steps and ends (R67,
R70, R71, R75 to R77). -/

namespace Sys2Proof.Machine

section
variable {s : State}

/-! ## Decisions that grant nothing -/

/-- Why a decision that grants nothing does not (R24). -/
def State.idleWait (s : State) : WaitCond := if s.eligibleSlots = [] then .noWork else .waitResults

theorem makeDecision_of_nothing (h : s.eligibleSlots = [] ∨ s.results.free = 0) :
    makeDecision s = { s with arb := { s.arb with wait := s.idleWait } } := by
  unfold makeDecision State.idleWait
  by_cases he : s.eligibleSlots = []
  · rw [if_pos (by rw [he]; rfl), if_pos he]
  · rw [if_neg (by simpa using he), if_pos (h.resolve_left he), if_neg he]

/-- The one decision of an event that finds no work or no FREE slot. -/
theorem settle_of_nothing (hd : s.arb.due = true) (hh : s.arb.head = .idle)
    (h : s.eligibleSlots = [] ∨ s.results.free = 0) :
    settle s = { s with arb := { s.arb with due := false, wait := s.idleWait } } := by
  have hstep : settle s = settleFor 16 (makeDecision (clearDue s)) :=
    if_pos (by rw [hd, hh]; rfl)
  have hdecision : makeDecision (clearDue s) = { s with arb := { s.arb with due := false, wait := s.idleWait } } :=
    makeDecision_of_nothing (s := clearDue s) h
  rw [hstep, hdecision]
  exact if_neg (by simp)

/-- The head becomes IDLE and its decision finds nothing. -/
theorem settle_idleHead (h : s.eligibleSlots = [] ∨ s.results.free = 0) :
    settle (idleHead s) = { s with arb := { s.arb with head := .idle, due := false, wait := s.idleWait } } :=
  settle_of_nothing (s := idleHead s) rfl rfl h

/-! ## Faults -/

/-- A fault recorded with the head IDLE, UNREADY or RECOVERING halts it (R32, R33). -/
theorem recordFault_halts {code : FaultCode} {sub : Option SubReason} (hc : code ≠ .stop)
    (hh : s.arb.head = .idle ∨ s.arb.head = .unready ∨ s.arb.head = .recovering) : recordFault code sub s = { s with
      ports := ⟨pulsed s.ports.a, pulsed s.ports.b, pulsed s.ports.c⟩
      arb := { s.arb with
        head := .halted, wait := .none, holder := none, burst := 0
        first := some (s.arb.first.getD (faultRecordNow code sub s)), last := some (faultRecordNow code sub s) } } := by
  have hhalt : recordFault code sub s = haltHead (storeFault (faultRecordNow code sub s) s) := by
    rw [recordFault, if_neg hc]
    rcases hh with hh | hh | hh <;> rw [hh]
  have hnot : (storeFault (faultRecordNow code sub s) s).arb.head ≠ .halted := by
    show s.arb.head ≠ .halted
    rcases hh with hh | hh | hh <;> rw [hh] <;> decide
  rw [hhalt, haltHead_of_not_halted hnot]
  rfl

/-- A fault recorded with the head BUSY halts it once the point has ended (R32, R38). -/
theorem recordFault_busy {code : FaultCode} {sub : Option SubReason} (hc : code ≠ .stop) (hh : s.arb.head = .busy) :
    recordFault code sub s = { s with
      arb := { s.arb with
        first := some (s.arb.first.getD (faultRecordNow code sub s)), last := some (faultRecordNow code sub s) }
      cycle := { s.cycle with haltOnEnd := true } } := by
  rw [recordFault, if_neg hc, hh]
  rfl

/-! ## The turret at rest -/

/-- A motion that ends with the actuator RETRACTED at its top limit and no indent held leaves the actuator (R90). -/
theorem turretAtRest_of_up (ha : s.act.state = .retracted) (hheld : s.act.held = none) (htop : s.pins.topLimit = true) :
    turretAtRest s = s := by
  rw [turretAtRest, if_pos ha, if_pos htop, startHeld_of_none hheld]

/-- The turret PARKED for the cycle while the move order is PENDING (R45, R49). -/
theorem rotationParked_of_pendStage (hs : s.cycle.state = .positioning ∨ s.cycle.state = .viewing)
    (hpend : s.cycle.pendStage = true) :
    rotationParked .cycle s = { s with cycle := { s.cycle with pendTurret := false } } := by
  rcases hs with hs | hs <;>
    simp only [rotationParked, cycleTurretParked, hs, advance, onCycle, hpend, Bool.true_or, if_true]

/-- Homing success ends start-up, and recovery with the faults cleared (R21, R35). -/
theorem arbiterHomed_eq (hh : s.arb.head = .unready ∨ s.arb.head = .recovering) : arbiterHomed s = idleHead { s with
    arb := { s.arb with
      first := if s.arb.head = .recovering then none else s.arb.first
      last := if s.arb.head = .recovering then none else s.arb.last } } := by
  have hne : HeadState.unready ≠ .recovering := by decide
  rcases hh with hh | hh
  · rw [arbiterHomed, hh]
    simp only [if_neg hne]
  · rw [arbiterHomed, hh]
    simp only [if_true]

/-! ## Marks (R65) -/

theorem markFits_iff (c : Nat) (n : Station) : markFits c n = true ↔ c ≤ 25 + 16 * n.val ∧ 15 + 16 * n.val ≤ c := by
  rw [markFits, markWidth, Bool.and_eq_true, decide_eq_true_iff, decide_eq_true_iff]
  omega

/-- No two stations accept one count. -/
theorem station_of_markFits {c : Nat} {m n : Station} (hm : markFits c m = true) (hn : markFits c n = true) : m = n := by
  rw [markFits_iff] at hm hn
  exact Fin.ext (by omega)

theorem stationOfMark_of_fits {c : Nat} {n : Station} (h : markFits c n = true) : stationOfMark c = some n := by
  have hmem : n ∈ allStations := by fin_cases n <;> decide
  obtain ⟨m, hm⟩ := Option.isSome_iff_exists.mp (List.find?_isSome.mpr ⟨n, hmem, h⟩)
  have hfits : markFits c m = true := List.find?_some hm
  rw [station_of_markFits hfits h] at hm
  exact hm

/-! ## Steps -/

theorem stepReported_of_counted (sensor : Bool) : exec (.stepReported { sensor := sensor }) s =
    .next (countStep sensor { s with pins := { s.pins with sensor := sensor } }) := rfl

theorem countStep_of_rotating {sensor : Bool} {r : Rotation} (h : s.turret.state = .rotating r) :
    countStep sensor s = setMotion (.rotating (countRotationStep sensor r s.turret.gated).1)
      (countRotationStep sensor r s.turret.gated).2 s := by
  simp only [countStep, h]

theorem countStep_of_homing {sensor : Bool} {h : Homing} (hh : s.turret.state = .homing h) :
    countStep sensor s = homingStep sensor h s := by
  simp only [countStep, hh]

theorem countStep_of_still {sensor : Bool} (h : s.turret.moving = false) : countStep sensor s = s := by
  unfold countStep
  split
  next r hr => simp [Turret.moving, hr] at h
  next r hr => simp [Turret.moving, hr] at h
  next => rfl

theorem stepPos_eq (d : Direction) (pos : Nat) :
    stepPos d pos = if d = .cw then (pos + 1) % 14400 else (pos + 14399) % 14400 := by
  cases d <;> rfl

end

/-- Settles O38. -/
theorem stepsAreCounted : Obligations.StepsAreCounted := by
  unfold Obligations.StepsAreCounted
  intro sensor s
  refine ⟨fun r left hr hphase => ?_, fun r hr hphase => ?_, fun r done clear hr hphase hdone => ?_,
    fun h seen hh hphase hsearch => ?_, fun h hh hphase hsearch => ⟨fun hs => ?_, fun hs n hhi hlo => ?_⟩,
    fun h n done pos hh hphase hdone => ?_, fun late hlate => ?_⟩
  · rw [stepReported_of_counted, countStep_of_rotating (by exact hr)]
    simp only [countRotationStep, hphase, stepPos_eq]
    rfl
  · have hdrop : countRotationStep sensor r s.turret.gated = (r, s.turret.gated) := by
      rcases hphase with hp | ⟨clear, hp⟩
      · simp only [countRotationStep, hp]
      · simp only [countRotationStep, hp, Config.strokeSteps, lt_irrefl, if_false]
    rw [stepReported_of_counted, countStep_of_rotating (by exact hr)]
    show Host.Outcome.next (setMotion (.rotating (countRotationStep sensor r s.turret.gated).1)
      (countRotationStep sensor r s.turret.gated).2 _) = _
    rw [hdrop, ← hr]
    rfl
  · rw [stepReported_of_counted, countStep_of_rotating (by exact hr)]
    have hlt : done < Config.strokeSteps := hdone
    simp only [countRotationStep, hphase, if_pos hlt, stepPos]
    cases sensor <;> rfl
  · rw [stepReported_of_counted, countStep_of_homing (by exact hh)]
    have hlt : h.searched < Config.searchLimit := hsearch
    simp only [homingStep, hphase, if_pos hlt, countSearchStep]
    cases seen <;> cases sensor <;> rfl
  · rw [stepReported_of_counted, countStep_of_homing (by exact hh)]
    have hlt : h.searched < Config.searchLimit := hsearch
    simp only [homingStep, hphase, if_pos hlt, if_pos hs]
    rfl
  · rw [stepReported_of_counted, countStep_of_homing (by exact hh)]
    have hlt : h.searched < Config.searchLimit := hsearch
    have hmark : stationOfMark s.turret.gated = some n := stationOfMark_of_fits ((markFits_iff _ n).mpr ⟨hhi, hlo⟩)
    simp only [homingStep, hphase, if_pos hlt, hs, Bool.false_eq_true, if_false, endMark, hmark]
    rfl
  · rw [stepReported_of_counted, countStep_of_homing (by exact hh)]
    have hlt : done < Config.placeSteps := hdone
    simp only [homingStep, hphase, countPlaceStep, if_pos hlt]
    rfl
  · refine congrArg Host.Outcome.next ?_
    rcases hlate with hl | hm
    · subst hl; rfl
    · simp only [stepReported]
      split
      · rfl
      · exact countStep_of_still hm

/-- Settles O39. -/
theorem travelAndStrokeEnd : Obligations.TravelAndStrokeEnd := by
  unfold Obligations.TravelAndStrokeEnd
  intro r s hr
  refine ⟨fun hphase => ?_, fun hphase => ?_,
    fun hphase hread hhi hlo hreq hs hpend ha hheld htop hd => ?_⟩
  · show execTravelEnd s = _
    simp only [execTravelEnd, hr, travelDone, hphase, decide_true, if_true]
    rfl
  · show execTravelEnd s = _
    simp only [execTravelEnd, hr, travelDone, hphase, decide_false, Bool.false_eq_true, if_false]
  · have hok : strokeOk true r.reading s.turret.gated r.target = true := by
      simp only [strokeOk, hread, (markFits_iff _ _).mpr ⟨hhi, hlo⟩, Bool.not_false, Bool.and_self]
    have hend : exec .strokeEnd s = .next (strokeEnd r true s) := by
      show execStrokeEnd s = _
      simp only [execStrokeEnd, hr, hphase, Config.strokeSteps, if_true]
    rw [hend, strokeEnd, if_pos hok, turretAtRest_of_up (by exact ha) (by exact hheld) (by exact htop), hreq,
      rotationParked_of_pendStage (by exact hs) (by exact hpend)]
    exact congrArg Host.Outcome.next (settle_of_not_due (by exact hd))

/-- Settles O41. -/
theorem homingEnds : Obligations.HomingEnds := by
  unfold Obligations.HomingEnds
  intro h s hh hhead ha hheld htop hd
  refine ⟨fun n pos hphase hnone => ?_, fun c sub hc => ?_⟩
  · have hend : exec .homingPlaced s = .next (homingDone n s) := by
      show execHomingPlaced s = _
      simp only [execHomingPlaced, hh, hphase, Config.placeSteps, if_true]
    rw [hend, homingDone, turretAtRest_of_up (by exact ha) (by exact hheld) (by exact htop), arbiterHomed_eq (by exact hhead)]
    refine congrArg Host.Outcome.next ((settle_idleHead (by exact hnone)).trans ?_)
    rw [← hd]
    rfl
  · have hend : exec c s = .next (failHoming sub s) := by
      rcases hc with ⟨rfl, rfl, hlimit, hopen⟩ | ⟨rfl, rfl⟩
      · have hmark : markOpen h = true := by
          rcases hopen with hp | ⟨b, hp⟩ <;> simp only [markOpen, hp]
        show execNoMark s = _
        simp only [execNoMark, hh, hmark, Bool.true_and]
        rw [if_pos (decide_eq_true (show Config.searchLimit ≤ h.searched from hlimit))]
      · show execHomeTimeout s = _
        simp only [execHomeTimeout, hh]
    refine ⟨_, _, hend.trans (congrArg Host.Outcome.next ?_), rfl, rfl⟩
    rw [failHoming, turretAtRest_of_up (by exact ha) (by exact hheld) (by exact htop),
      recordFault_halts (by decide) (by exact .inr hhead)]
    exact settle_of_not_due (by exact hd)

end Sys2Proof.Machine
end

section
/-! PROOFS. The end of a point whose job stays in the table (R58, R59), the way into CLEARING (R43, R56, R115, R135), and a
rotation that fails in POSITIONING (R45, R73). -/

namespace Sys2Proof.Machine

section
variable {s : State} {g : Granted} {j : Job} {st : Status} {body : PointBody} {off : Int × Int}

/-! ## The record of a point -/

theorem pointRecorded_slot_same (hj : (s.slot g.slot).job = some j) :
    (pointRecorded g j st body off s).slot g.slot = { s.slot g.slot with
      job := some (countStatus st j)
      acc := accumulate j.params.kind st ((body.hardness.getD 0 : Nat) : Int) off (s.slot g.slot).acc } := by
  have hbefore : ∀ r : Record, (dropGranted g.slot (countRecord j.params (writeRecord r s))).slot g.slot = s.slot g.slot :=
    fun r => by
      show (countRecord j.params (writeRecord r s)).slot g.slot = _
      rw [countRecord_frame]
      exact slot_writeRecord r s g.slot
  simp only [pointRecorded]
  rw [slot_setSlot_same, slot_updateJob_same (by rw [hbefore]; exact hj), hbefore]

theorem pointRecorded_slot_ne {k : Slot} (hk : k ≠ g.slot) : (pointRecorded g j st body off s).slot k = s.slot k := by
  simp only [pointRecorded]
  rw [slot_setSlot_ne _ hk, slot_updateJob_ne hk]
  show (countRecord j.params _).slot k = _
  rw [countRecord_frame]
  exact slot_writeRecord _ s k

/-- The POINT record as it is written (R157, R178). -/
def pointRecord (g : Granted) (j : Job) (st : Status) (body : PointBody) (id : Word16) : Record :=
  { id := id, port := j.owner, handle := g.handle, kind := j.params.kind, specimen := j.params.specimen, status := st
    body := .point body }

theorem pointRecorded_results : (pointRecorded g j st body off s).results = { s.results with
    reserved := s.results.reserved - 1, counter := s.newRecordId
    untaken := withPort s.results.untaken j.owner
      (forPort s.results.untaken j.owner ++ [pointRecord g j st body s.newRecordId]) } := by
  simp only [pointRecorded]
  rw [updateJob_frame, countRecord_frame]
  exact writeRecord_results _ s

theorem pulsedOnly_pointRecorded : PulsedOnly s (pointRecorded g j st body off s) := by
  have hports : (pointRecorded g j st body off s).ports = (writeRecord (pointRecord g j st body 0) s).ports := by
    simp only [pointRecorded]
    rw [updateJob_frame, countRecord_frame]
    rfl
  exact (pulsedOnly_writeRecord (pointRecord g j st body 0) s).trans (.of_ports hports)

theorem pointRecorded_verif : (pointRecorded g j st body off s).verif = (countRecord j.params s).verif := by
  have hverif : (pointRecorded g j st body off s).verif =
      (countRecord j.params (writeRecord (pointRecord g j st body 0) s)).verif := by
    simp only [pointRecorded]
    rw [updateJob_frame]
    rfl
  rw [hverif, countRecord, countRecord, writeRecord_frame]
  split <;> rfl

/-- A record leaves the PENDING points. -/
theorem pointRecorded_pendingOf (k : Slot) : (pointRecorded g j st body off s).pendingOf k = s.pendingOf k := by
  rw [State.pendingOf, State.pendingOf, pointRecorded_frame]
  show (s.points.filter _).filter _ = _
  rw [List.filter_filter]
  refine List.filter_congr fun p _ => ?_
  cases p.state <;> simp

/-- A record leaves which jobs are eligible. -/
theorem pointRecorded_eligibleSlots (hj : (s.slot g.slot).job = some j) :
    (pointRecorded g j st body off s).eligibleSlots = s.eligibleSlots := by
  refine List.filter_congr fun k _ => ?_
  simp only [State.eligible, pointRecorded_pendingOf]
  by_cases hk : k = g.slot
  · subst hk
    rw [pointRecorded_slot_same hj, hj]
    simp only [countStatus]
    split <;> rfl
  · rw [pointRecorded_slot_ne hk]

/-- A record written leaves a full store full. -/
theorem pointRecorded_free (h : s.results.free = 0) : (pointRecorded g j st body off s).results.free = 0 := by
  rw [pointRecorded_results]
  simp only [ResultStore.free] at h ⊢
  cases j.owner <;> simp [withPort, forPort] <;> omega

/-! ## The end of a point whose job stays -/

/-- With a PENDING point left the job does not finish (R18). -/
theorem endPoint_of_pending (hp : s.pendingOf g.slot ≠ []) :
    endPoint g j st body off s = cycleReturn (pointRecorded g j st body off s) := by
  have hpoints : (pointRecorded g j st body off s).pointsOf g.slot ≠ [] := fun hnil => by
    have hpending := pointRecorded_pendingOf (s := s) (g := g) (j := j) (st := st) (body := body) (off := off) g.slot
    refine hp (hpending.symm.trans (List.filter_eq_nil_iff.mpr fun p hmem hcond => ?_))
    simp only [Bool.and_eq_true, decide_eq_true_eq] at hcond
    exact List.filter_eq_nil_iff.mp hnil p hmem (decide_eq_true hcond.1)
  rw [endPoint_eq, finishTest_of_points hpoints]

/-- The arbiter's state when the head becomes HALTED (R24, R26). -/
def haltedArb (a : Arbiter) : Arbiter := { a with head := .halted, wait := .none, holder := none, burst := 0 }

theorem haltHead_arb (h : s.arb.head ≠ .halted) : (haltHead s).arb = haltedArb s.arb := by
  rw [haltHead_of_not_halted h]; rfl

theorem pulsedOnly_cycleReturn : PulsedOnly s (cycleReturn s) := by
  rw [cycleReturn_eq]
  split
  · exact (PulsedOnly.of_ports rfl).trans (pulsedOnly_haltHead _)
  · exact .of_ports rfl

theorem cycleReturn_arb (h : s.arb.head ≠ .halted) : (cycleReturn s).arb =
    if s.cycle.haltOnEnd then haltedArb s.arb else { s.arb with head := .idle, due := true } := by
  rw [cycleReturn_eq]
  split
  · exact haltHead_arb (s := { s with cycle := {} }) h
  · rfl

/-- A point's end and the decisions of its event, the job staying and the decision granting nothing (R38, R59). -/
def PointEnded (g : Granted) (j : Job) (st : Status) (body : PointBody) (off : Int × Int) (s t : State) : Prop :=
  t = { s with
    ports := t.ports, cycle := {}, points := s.points.filter fun p => !(p.slot = g.slot && p.state = .granted)
    jobs := (pointRecorded g j st body off s).jobs, results := (pointRecorded g j st body off s).results
    verif := (countRecord j.params s).verif
    arb := if s.cycle.haltOnEnd then haltedArb s.arb else { s.arb with head := .idle, wait := s.idleWait } } ∧
  PulsedOnly s t

theorem settle_endPoint (hj : (s.slot g.slot).job = some j) (hp : s.pendingOf g.slot ≠ []) (hh : s.arb.head ≠ .halted)
    (hd : s.arb.due = false) (hnone : s.cycle.haltOnEnd = false → s.eligibleSlots = [] ∨ s.results.free = 0) :
    PointEnded g j st body off s (settle (endPoint g j st body off s)) := by
  rw [endPoint_of_pending hp]
  have hframe := pointRecorded_frame g j st body off s
  have hpulse : PulsedOnly s (pointRecorded g j st body off s) := pulsedOnly_pointRecorded
  have hverif : (pointRecorded g j st body off s).verif = (countRecord j.params s).verif := pointRecorded_verif
  have heligible : (pointRecorded g j st body off s).eligibleSlots = s.eligibleSlots := pointRecorded_eligibleSlots hj
  have hfree : s.results.free = 0 → (pointRecorded g j st body off s).results.free = 0 := pointRecorded_free
  unfold PointEnded
  generalize pointRecorded g j st body off s = u at hframe hpulse hverif heligible hfree
  have harb : u.arb = s.arb := by rw [hframe]
  have hcycle : u.cycle = s.cycle := by rw [hframe]
  have hret := cycleReturn_frame u
  have hretarb := cycleReturn_arb (s := u) (by rw [harb]; exact hh)
  have hretpulse : PulsedOnly u (cycleReturn u) := pulsedOnly_cycleReturn
  rw [harb, hcycle] at hretarb
  generalize cycleReturn u = v at hret hretarb hretpulse
  cases hhalt : s.cycle.haltOnEnd with
  | true =>
    rw [hhalt, if_pos rfl] at hretarb
    have hdue : v.arb.due = false := by rw [hretarb]; exact hd
    rw [settle_of_not_due hdue]
    refine ⟨?_, hpulse.trans hretpulse⟩
    rw [if_pos rfl, ← hretarb, ← hverif]
    rw [hret, hframe]
  | false =>
    rw [hhalt, if_neg (by decide)] at hretarb
    have hnothing : v.eligibleSlots = [] ∨ v.results.free = 0 := by
      rw [hret]
      exact (hnone hhalt).imp (heligible.trans ·) hfree
    have hwait : v.idleWait = s.idleWait := by
      have hsame : v.eligibleSlots = s.eligibleSlots := by rw [hret]; exact heligible
      rw [State.idleWait, State.idleWait, hsame]
    rw [settle_of_nothing (by rw [hretarb]) (by rw [hretarb]) hnothing, hwait, hretarb]
    refine ⟨?_, (hpulse.trans hretpulse).trans (.of_ports rfl)⟩
    have hspent : ({ s.arb with head := .idle, due := false, wait := s.idleWait } : Arbiter) =
        { s.arb with head := .idle, wait := s.idleWait } := by rw [← hd]
    rw [if_neg (by decide), ← hverif, ← hspent, hret, hframe]

theorem PointEnded.slot_same {t : State} (h : PointEnded g j st body off s t) (hj : (s.slot g.slot).job = some j) :
    t.slot g.slot = { s.slot g.slot with
      job := some (countStatus st j)
      acc := accumulate j.params.kind st ((body.hardness.getD 0 : Nat) : Int) off (s.slot g.slot).acc } := by
  have hslot : t.slot g.slot = (pointRecorded g j st body off s).slot g.slot := by rw [h.1]; rfl
  exact hslot.trans (pointRecorded_slot_same hj)

theorem PointEnded.slot_ne {t : State} (h : PointEnded g j st body off s t) {k : Slot} (hk : k ≠ g.slot) :
    t.slot k = s.slot k := by
  have hslot : t.slot k = (pointRecorded g j st body off s).slot k := by rw [h.1]; rfl
  exact hslot.trans (pointRecorded_slot_ne hk)

theorem PointEnded.results {t : State} (h : PointEnded g j st body off s t) : t.results = { s.results with
    reserved := s.results.reserved - 1, counter := s.newRecordId
    untaken := withPort s.results.untaken j.owner
      (forPort s.results.untaken j.owner ++ [pointRecord g j st body s.newRecordId]) } := by
  rw [h.1]; exact pointRecorded_results (off := off)

/-! ## The clearing path's record (R58, R166) -/

/-- The map with the indentation of a point that made contact (R166). -/
def clearingMapped (g : Granted) (j : Job) (s : State) : State :=
  if s.cycle.contactMade then
    addMapEntry { specimen := j.params.specimen, x := g.x, y := g.y, diag := 0, recordId := s.newRecordId } s
  else s

theorem clearingMapped_frame : clearingMapped g j s = { s with map := (clearingMapped g j s).map } := by
  unfold clearingMapped; split <;> rfl

theorem clearingMapped_of_contact (h : s.cycle.contactMade = true) : (clearingMapped g j s).map.getLast? = some {
    specimen := j.params.specimen, x := g.x, y := g.y, diag := 0, recordId := s.newRecordId } := by
  rw [clearingMapped, if_pos h, addMapEntry]
  exact List.getLast?_concat

theorem clearingRecord_of_job (hj : (s.slot g.slot).job = some j) : clearingRecord g s =
    endPoint g j (s.cycle.outcome.getD .aborted) (clearingBody s.cycle g j s.verif) (0, 0) (clearingMapped g j s) := by
  simp only [clearingRecord, hj, clearingMapped]

theorem clearingDone_of_done (hs : s.cycle.state = .clearing) (hg : s.cycle.granted = some g)
    (hstage : s.cycle.pendStage = false) (hturret : s.cycle.pendTurret = false) (hact : s.cycle.pendActuator = false) :
    clearingDone s = clearingRecord g s := by
  simp only [clearingDone, hs, hstage, hturret, hact, hg, decide_true, Bool.not_false, Bool.and_self, if_true]

/-- The record of a counter is the one of its table. -/
theorem countRecord_counter (q : JobParams) : (countRecord q s).verif.counter = s.verif.counter := by
  unfold countRecord; split <;> rfl

theorem accumulate_of_failed {kind : JobKind} {h : Int} {a : Accum} (hst : st ≠ .ok) : accumulate kind st h off a = a :=
  if_neg hst

theorem countRecord_of_other {q : JobParams} (h : q.kind ≠ .measure) : countRecord q s = s := if_neg h

/-- What the clearing path's record changes, with the decisions of its event. -/
def RecordCleared (st : Status) (g : Granted) (j : Job) (s t : State) : Prop :=
  PointCleared st g j s t ∧ PulsedOnly s t ∧ t = { s with
    ports := t.ports, cycle := t.cycle, points := t.points, jobs := t.jobs, results := t.results, map := t.map
    verif := t.verif
    arb := if s.cycle.haltOnEnd then haltedArb s.arb else { s.arb with head := .idle, wait := s.idleWait } }

theorem settle_clearingRecord (hj : (s.slot g.slot).job = some j) (ho : s.cycle.outcome = some st) (hst : st ≠ .ok)
    (hp : s.pendingOf g.slot ≠ []) (hh : s.arb.head ≠ .halted) (hd : s.arb.due = false)
    (hnone : s.cycle.haltOnEnd = false → s.eligibleSlots = [] ∨ s.results.free = 0) :
    RecordCleared st g j s (settle (clearingRecord g s)) := by
  have hmap := clearingMapped_frame (s := s) (g := g) (j := j)
  have hcontact : s.cycle.contactMade = true → (clearingMapped g j s).map.getLast? = some {
      specimen := j.params.specimen, x := g.x, y := g.y, diag := 0, recordId := s.newRecordId } := clearingMapped_of_contact
  have hnocontact : s.cycle.contactMade = false → (clearingMapped g j s).map = s.map := fun h => by
    rw [clearingMapped, if_neg (by simp [h])]
  rw [clearingRecord_of_job hj, ho, Option.getD_some]
  generalize clearingMapped g j s = u at hmap hcontact hnocontact
  have hended : PointEnded g j st (clearingBody s.cycle g j s.verif) (0, 0) u _ := settle_endPoint
    (by rw [hmap]; exact hj) (by rw [hmap]; exact hp) (by rw [hmap]; exact hh) (by rw [hmap]; exact hd)
    (by rw [hmap]; exact hnone)
  generalize settle (endPoint g j st (clearingBody s.cycle g j s.verif) (0, 0) u) = t at hended
  have hsame := hended.slot_same (by rw [hmap]; exact hj)
  have hne := fun k (hk : k ≠ g.slot) => hended.slot_ne hk
  have hresults := hended.results
  obtain ⟨hframe, hpulse⟩ := hended
  have hid : u.newRecordId = s.newRecordId := by rw [hmap]; rfl
  have hslots : ∀ k, u.slot k = s.slot k := fun k => by rw [hmap]; rfl
  have huverif : u.verif = s.verif := by rw [hmap]
  have hures : u.results = s.results := by rw [hmap]
  have hverif : t.verif = (countRecord j.params u).verif := by rw [hframe]
  have htmap : t.map = u.map := by rw [hframe]
  rw [hid, hures] at hresults
  refine ⟨⟨?_, ?_, ?_, fun k hk => (hne k hk).trans (hslots k), ?_, fun q hq => ?_, ?_, ?_, ?_, fun h => ?_, fun h => ?_,
    ?_, fun h => ?_⟩, ?_, ?_⟩
  · rw [hframe]
  · rw [hframe, hmap]
  · rw [hsame, hslots, countStatus, if_neg hst, accumulate_of_failed hst]
  · rw [hresults]; exact forPort_withPort _ _ _
  · rw [hresults]; exact forPort_withPort_ne _ hq _
  · rw [hresults]
  · rw [hresults]
  · rw [hresults]
  · rw [htmap, hnocontact h]
  · rw [htmap, hcontact h]
  · rw [hverif, countRecord_counter, huverif]
  · rw [hverif, countRecord_of_other h, huverif]
  · have hports : u.ports = s.ports := by rw [hmap]
    exact (PulsedOnly.of_ports hports).trans hpulse
  · rw [hframe, hmap]
    rfl

end

/-! ## The way into CLEARING (R43, R56, R115, R135) -/

section
variable {s t : State}

theorem withdrawOrder_stage_pending {o : Order} (h : s.pendingOrder = some o) : (withdrawOrder s).stage =
    { s.stage with order := some { o with status := .withdrawn }, settleTimer := false } := by
  rw [withdrawOrder, endOrder_of_some h]

theorem withdrawOrder_stage_none (h : s.pendingOrder = none) : (withdrawOrder s).stage = s.stage := by
  rw [withdrawOrder, endOrder_of_none h]

theorem abandonCapture_cap (s : State) : (abandonCapture s).cap = if s.cap.state = .idle then s.cap
    else { s.cap with
      state := .idle, request := none, roi := none, exposure := none, lit := [], line := [], frameTimer := false
      tailDiscard := s.cap.tailDiscard || s.cap.state ≠ .waiting } := by
  unfold abandonCapture
  split
  next h => rw [if_pos h]
  next h =>
    have hkeep : (s.cap.tailDiscard || decide (s.cap.state ≠ .waiting)) = s.cap.tailDiscard := by
      rw [h, decide_eq_false (by decide), Bool.or_false]
    rw [hkeep, if_neg (by rw [h]; decide)]
    rfl
  next hi hw =>
    have hdrop : (s.cap.tailDiscard || decide (s.cap.state ≠ .waiting)) = true := by
      rw [decide_eq_true (show s.cap.state ≠ .waiting from hw), Bool.or_true]
    rw [if_neg hi, hdrop]
    rfl

theorem abandonMeasure_of_run {m : MeasRun} (h : s.meas.run = some m) : (abandonMeasure s).meas = {
    run := none
    summary := some {
      outcome := .abandoned, imageId := m.req.imageId, threshold := m.req.threshold, t := m.work.t, b := m.work.b
      d := m.work.d, detail := none, axis := none, colSpan := m.work.colSpan, rowSpan := m.work.rowSpan
      phase := some m.work.phase } } := by
  simp only [abandonMeasure, h]
  rfl

theorem dropWork_stage (s : State) : (dropWork s).stage = (withdrawOrder s).stage := by
  refine withdrawOrder_stage_of_stage ?_
  rw [abandonMeasure_frame, abandonCapture_frame]

theorem dropWork_cap (s : State) : (dropWork s).cap = (abandonCapture s).cap := by
  rw [dropWork, withdrawOrder, endOrder_frame, abandonMeasure_frame]

theorem dropWork_meas (s : State) : (dropWork s).meas = (abandonMeasure s).meas := by
  have hmeas : (dropWork s).meas = (abandonMeasure (abandonCapture s)).meas := by rw [dropWork, withdrawOrder, endOrder_frame]
  rw [hmeas, abandonCapture_frame]
  simp only [abandonMeasure]
  split <;> rfl

theorem workDropped_of_eq (hstage : t.stage = (dropWork s).stage) (hcap : t.cap = (dropWork s).cap)
    (hmeas : t.meas = (dropWork s).meas) : WorkDropped s t := by
  rw [dropWork_stage] at hstage
  rw [dropWork_cap] at hcap
  rw [dropWork_meas] at hmeas
  refine ⟨fun o ho => hstage.trans (withdrawOrder_stage_pending ho), fun ho => hstage.trans (withdrawOrder_stage_none ho),
    hcap.trans (abandonCapture_cap s), fun hm => ?_, fun m hm => hmeas.trans (abandonMeasure_of_run hm)⟩
  rw [hmeas, abandonMeasure_of_none hm]

/-- CLEARING as it is entered, before the record. -/
theorem enterClearing_eq (s : State) : enterClearing s = clearingDone { s with
    stage := (dropWork s).stage, cap := (dropWork s).cap, meas := (dropWork s).meas
    cycle := clearingCycle s.turret s.act s.cycle } := by
  have hframe := dropWork_frame s
  simp only [enterClearing]
  generalize dropWork s = u at hframe
  rw [hframe]
  rfl

/-- CLEARING entered with nothing to wait for: work dropped, the record written, the decisions made (R56, R58). -/
def ClearedAtOnce (st : Status) (g : Granted) (j : Job) (s t : State) : Prop :=
  WorkDropped s t ∧ PointCleared st g j s t ∧ PulsedOnly s t ∧ t = { s with
    ports := t.ports, cycle := t.cycle, points := t.points, jobs := t.jobs, results := t.results, map := t.map
    verif := t.verif, stage := t.stage, cap := t.cap, meas := t.meas
    arb := if s.cycle.haltOnEnd then haltedArb s.arb else { s.arb with head := .idle, wait := s.idleWait } }

theorem settle_enterClearing {g : Granted} {j : Job} {st : Status} (hj : s.cycleJob = some (g, j))
    (ho : s.cycle.outcome = some st) (hst : st ≠ .ok) (hturret : (s.cycle.pendTurret && s.turret.rotating) = false)
    (hact : (s.cycle.pendActuator && !s.act.atRest) = false) (hp : s.pendingOf g.slot ≠ []) (hh : s.arb.head ≠ .halted)
    (hd : s.arb.due = false) (hnone : s.cycle.haltOnEnd = false → s.eligibleSlots = [] ∨ s.results.free = 0) :
    ClearedAtOnce st g j s (settle (enterClearing s)) := by
  obtain ⟨hg, hjob⟩ := cycleJob_eq hj
  rw [enterClearing_eq]
  have hdone := clearingDone_of_done (g := g) (s := { s with
    stage := (dropWork s).stage, cap := (dropWork s).cap, meas := (dropWork s).meas
    cycle := clearingCycle s.turret s.act s.cycle }) rfl hg rfl hturret hact
  have hcleared := settle_clearingRecord (s := { s with
    stage := (dropWork s).stage, cap := (dropWork s).cap, meas := (dropWork s).meas
    cycle := clearingCycle s.turret s.act s.cycle }) hjob ho hst hp hh hd hnone
  rw [hdone]
  generalize settle (clearingRecord g { s with
    stage := (dropWork s).stage, cap := (dropWork s).cap, meas := (dropWork s).meas
    cycle := clearingCycle s.turret s.act s.cycle }) = t at hcleared
  obtain ⟨hpoint, hpulse, hframe⟩ := hcleared
  have hstage : t.stage = (dropWork s).stage := by rw [hframe]
  have hcap : t.cap = (dropWork s).cap := by rw [hframe]
  have hmeas : t.meas = (dropWork s).meas := by rw [hframe]
  refine ⟨workDropped_of_eq hstage hcap hmeas, hpoint, hpulse, ?_⟩
  rw [hstage, hcap, hmeas]
  exact hframe

end

/-! ## A failed rotation in POSITIONING (R45, R73) -/

theorem failRotation_eq {s : State} {r : Rotation} {sub : SubReason} (hreq : r.req = .cycle)
    (ha : s.act.state = .retracted) (hheld : s.act.held = none) (htop : s.pins.topLimit = true) :
    failRotation r sub s = settle (cycleTurretFailed (recordFault .turretFault (some sub) (turretFault sub s))) := by
  rw [failRotation, turretAtRest_of_up (by exact ha) (by exact hheld) (by exact htop), hreq]
  rfl

/-- The turret's failure report in POSITIONING with the head BUSY. -/
theorem cycleTurretFailed_of_positioning {s : State} {sub : SubReason} (hh : s.arb.head = .busy)
    (hs : s.cycle.state = .positioning) :
    cycleTurretFailed (recordFault .turretFault (some sub) s) = enterClearing { s with
      arb := { s.arb with
        first := some (s.arb.first.getD (faultRecordNow .turretFault (some sub) s))
        last := some (faultRecordNow .turretFault (some sub) s) }
      cycle := { s.cycle with haltOnEnd := true, pendTurret := false, outcome := some .turretFault } } := by
  rw [recordFault_busy (by decide) hh]
  simp only [cycleTurretFailed, hs, failEquipment, failPoint, onCycle]

/-- The stroke end that fails a check (R71). -/
theorem strokeEnd_of_mismatch {s : State} {r : Rotation} {clear : Bool}
    (h : clear = false ∨ r.reading = true ∨ 25 + 16 * r.target.val < s.turret.gated ∨
      s.turret.gated < 15 + 16 * r.target.val) : strokeEnd r clear s = failRotation r .markMismatch
    { s with turret := { s.turret with lastMark := some (s.turret.gated, some r.target) } } := by
  have hbad : ¬ strokeOk clear r.reading s.turret.gated r.target = true := by
    simp only [strokeOk, Bool.and_eq_true, Bool.not_eq_true', markFits_iff]
    rintro ⟨⟨hclear, hread⟩, hhi, hlo⟩
    rcases h with h | h | h | h
    · exact Bool.noConfusion (h.symm.trans hclear)
    · exact Bool.noConfusion (h.symm.trans hread)
    · omega
    · omega
  rw [strokeEnd, if_neg hbad]

/-- Settles O40. -/
theorem rotationFailureEndsThePoint : Obligations.RotationFailureEndsThePoint := by
  unfold Obligations.RotationFailureEndsThePoint
  intro c sub r g j o s hr hreq hc hh hs hcontact hknown hj hpo ha hheld htop hcap hmeas hd hp
  obtain ⟨mark, hmark, hexec⟩ : ∃ mark, mark = (if c = .strokeEnd then some (s.turret.gated, some r.target)
      else s.turret.lastMark) ∧ exec c s = .next (failRotation r sub
        { s with turret := { s.turret with lastMark := mark } }) := by
    rcases hc with ⟨rfl, rfl⟩ | ⟨rfl, rfl, clear, hphase, hbad⟩
    · have hexec : exec .rotationTimeout s = .next (failRotation r .rotationTimeout s) := by
        show execRotationTimeout s = _
        simp only [execRotationTimeout, hr]
      exact ⟨s.turret.lastMark, (if_neg (by decide)).symm, hexec⟩
    · have hexec : exec .strokeEnd s = .next (strokeEnd r clear s) := by
        show execStrokeEnd s = _
        simp only [execStrokeEnd, hr, hphase, Config.strokeSteps, if_true]
      rw [strokeEnd_of_mismatch hbad] at hexec
      exact ⟨some (s.turret.gated, some r.target), (if_pos rfl).symm, hexec⟩
  have hfail := failRotation_eq (s := { s with turret := { s.turret with lastMark := mark } }) (sub := sub) hreq ha hheld
    htop
  rw [cycleTurretFailed_of_positioning (by exact hh) (by exact hs)] at hfail
  have hcleared := settle_enterClearing (g := g) (j := j) (st := .turretFault) (s := { s with
    turret := { s.turret with lastMark := mark, state := .fault, lastSub := some sub }
    arb := { s.arb with
      first := some (s.arb.first.getD (faultRecordNow .turretFault (some sub) s))
      last := some (faultRecordNow .turretFault (some sub) s) }
    cycle := { s.cycle with haltOnEnd := true, pendTurret := false, outcome := some .turretFault } })
    hj rfl (by decide) rfl (by simp [Actuator.atRest, ha]) hp (by show s.arb.head ≠ _; rw [hh]; decide) hd
    (fun h => nomatch h)
  obtain ⟨t, ht⟩ : ∃ t, t = settle (enterClearing { s with
    turret := { s.turret with lastMark := mark, state := .fault, lastSub := some sub }
    arb := { s.arb with
      first := some (s.arb.first.getD (faultRecordNow .turretFault (some sub) s))
      last := some (faultRecordNow .turretFault (some sub) s) }
    cycle := { s.cycle with haltOnEnd := true, pendTurret := false, outcome := some .turretFault } }) := ⟨_, rfl⟩
  rw [← ht] at hcleared
  obtain ⟨⟨hstage, -, htcap, htmeas, -⟩, ⟨hcycle, hpoints, hsame, hne, huntaken, -, -, hreserved, hcounter, hmap, -, -, -⟩,
    -, hframe⟩ := hcleared
  have harb : t.arb = haltedArb { s.arb with
      first := some (s.arb.first.getD (faultRecordNow .turretFault (some sub) s))
      last := some (faultRecordNow .turretFault (some sub) s) } := by rw [hframe]; rfl
  have hturret : t.turret = { s.turret with lastMark := mark, state := .fault, lastSub := some sub } := by rw [hframe]
  refine ⟨t, ?_, ?_, ?_, ?_, ?_, ?_, hstage o hpo, ?_, ?_, ?_, ?_, ?_, hpoints, hsame, hne, ?_, hreserved, hcounter⟩
  · rw [hexec, ht]
    exact congrArg Host.Outcome.next hfail
  · have hc' : t.cap = s.cap := htcap.trans (if_pos hcap)
    have hm' : t.meas = s.meas := htmeas hmeas
    have hp' : t.map = s.map := hmap hcontact
    rw [hc', hm', hp', hcycle, ← harb] at hframe
    rw [hturret]
    exact hframe
  · rw [hturret]
  · rw [hturret]
  · rw [hturret]
  · rw [hturret]; exact hmark
  · rw [harb]; rfl
  · rw [harb]; rfl
  · rw [harb]; rfl
  · rw [harb]; rfl
  · rw [harb]
    show some (faultRecordNow .turretFault (some sub) s) = _
    rw [faultRecordNow, hh]
  · rw [huntaken]
    simp only [hknown]
    rfl

end Sys2Proof.Machine
end

section
/-! PROOFS. STOP (R32, R60, R78, R186): the two commands that take one, and what it does in each head state. -/

namespace Sys2Proof.Machine

/-! ## The commands that take a STOP -/

/-- Two mailboxes that differ in their pulses at most. -/
def SamePost (m m' : Mailbox) : Prop :=
  { m with pulseActive := false, pulseScheduled := false } = { m' with pulseActive := false, pulseScheduled := false }

/-- The pins once a command has taken a STOP. -/
def stopPins (c : Instr) (s : State) : Pins := { s.pins with stopLine := s.pins.stopLine || c = .stopLineAssert }

/-- A STOP is taken in the state with the command taken or the line asserted; what it makes is the command's outcome, but for
the answer. -/
theorem exec_of_takesStop {c : Instr} {s : State} (hc : TakesStop c s) : ∃ P : PerPort Mailbox,
    (∀ q, (s.mailbox q).state = .working → forPort P q = s.mailbox q) ∧
    ∀ u, takeStop { s with ports := P, pins := stopPins c s } = u → u.arb.due = false →
      (∀ q, (s.mailbox q).state = .posted → SamePost (u.mailbox q) (forPort P q)) →
      ∃ t, exec c s = .next t ∧ t = { u with ports := t.ports } ∧
        (∀ p, c = .headStop p → ToldWith p (.ok (u8 (headCode s.arb.head))) s t) ∧
        ∀ q, (s.mailbox q).state = .working → t.mailbox q = u.mailbox q := by
  rcases hc with ⟨p, rfl, hp⟩ | ⟨rfl, hline⟩
  · have hposted : (s.mailbox p).state = .posted := by
      simp only [State.posted, Bool.and_eq_true, decide_eq_true_eq] at hp
      exact hp.1
    have hne : ∀ q, (s.mailbox q).state = .working → q ≠ p := fun q hq hqp => by
      rw [hqp, hposted] at hq
      exact nomatch hq
    have hpins : stopPins (.headStop p) s = s.pins := by
      rw [stopPins, decide_eq_false (by exact (nomatch ·)), Bool.or_false]
    refine ⟨(takeCommand p s).ports, fun q hq => mailbox_setMailbox_ne s (hne q hq) _, fun u hu hdue hsame => ?_⟩
    rw [hpins] at hu
    have hown : SamePost (u.mailbox p) { s.mailbox p with state := .working } := by
      have := hsame p hposted
      rwa [show forPort (takeCommand p s).ports p = { s.mailbox p with state := .working } from mailbox_takeCommand p s]
        at this
    obtain ⟨hframe, htold, hkept⟩ := answer_told (r := .ok (u8 (headCode s.arb.head))) hown
    have hrun : runCommand 0x0501 p headStopBody s = answer p (.ok (u8 (headCode s.arb.head))) u := by
      rw [runCommand_of_posted headStopBody hp]
      show answer p _ (takeStop (takeCommand p s)) = _
      rw [show takeStop (takeCommand p s) = u from hu]
      rfl
    have hsettled : settle (answer p (.ok (u8 (headCode s.arb.head))) u) = answer p (.ok (u8 (headCode s.arb.head))) u :=
      settle_of_not_due (by rw [hframe]; exact hdue)
    refine ⟨answer p (.ok (u8 (headCode s.arb.head))) u, ?_, hframe, fun p' hp' => ?_, fun q hq => hkept q (hne q hq)⟩
    · show execHeadStop p s = _
      rw [execHeadStop, hrun, hsettled]
    · cases hp'; exact htold
  · have hpins : stopPins .stopLineAssert s = { s.pins with stopLine := true } := by
      rw [stopPins, decide_eq_true rfl, Bool.or_true]
    refine ⟨s.ports, fun q _ => rfl, fun u hu hdue _ => ⟨u, ?_, rfl, fun _ hp => (nomatch hp), fun _ _ => rfl⟩⟩
    rw [hpins] at hu
    show execStopLineAssert s = _
    rw [execStopLineAssert, if_neg (Bool.eq_false_iff.mp hline)]
    exact congrArg Host.Outcome.next ((congrArg settle hu).trans (settle_of_not_due hdue))

/-- The record of a STOP taken now (R33). -/
def stopFault (s : State) : FaultRecord := {
  code := .stop, sub := none, head := s.arb.head
  point := s.grantedPoint.map fun g => (s.handle g.slot, g.index) }

/-- The arbiter with a STOP recorded (R33). -/
def stopArb (s : State) : Arbiter :=
  { s.arb with first := some (s.arb.first.getD (stopFault s)), last := some (stopFault s) }

theorem recordFault_stop_eq (s : State) : recordFault .stop none s = { s with arb := stopArb s } := rfl

/-! ## A STOP outside BUSY and SELFTEST -/

section
variable {s : State}

/-- The turret once a motion in progress is abandoned (R78). -/
def stoppedTurret (s : State) : Turret := if s.turret.moving then { s.turret with state := .unknown } else s.turret

theorem takeStop_of_homing (hh : s.arb.head = .unready ∨ s.arb.head = .recovering) (hheld : s.act.held = none) :
    takeStop s = { s with
      ports := ⟨pulsed s.ports.a, pulsed s.ports.b, pulsed s.ports.c⟩
      arb := haltedArb (stopArb s), turret := stoppedTurret s, act := landed s } := by
  have htake : takeStop s = haltHead (abandonMotion (recordFault .stop none s)) := by
    rcases hh with hh | hh <;> simp only [takeStop, hh]
  have hne : s.arb.head ≠ .halted := by rcases hh with hh | hh <;> rw [hh] <;> decide
  rw [htake, recordFault_stop_eq, abandonMotion_of_free (by exact hheld), haltHead_of_not_halted (by exact hne)]
  rfl

theorem takeStop_of_idle (hh : s.arb.head = .idle) : takeStop s = { s with
    ports := ⟨pulsed s.ports.a, pulsed s.ports.b, pulsed s.ports.c⟩, arb := haltedArb (stopArb s) } := by
  have hne : s.arb.head ≠ .halted := by rw [hh]; decide
  rw [takeStop, hh, recordFault_stop_eq]
  exact haltHead_of_not_halted (s := { s with arb := stopArb s }) hne

theorem takeStop_of_halted (hh : s.arb.head = .halted) : takeStop s = { s with arb := stopArb s } := by
  rw [takeStop, hh, recordFault_stop_eq]

theorem samePost_pulsed (q : Port) (P : PerPort Mailbox) :
    SamePost (forPort ⟨pulsed P.a, pulsed P.b, pulsed P.c⟩ q) (forPort P q) := by
  have heach : ∀ m : Mailbox, SamePost (pulsed m) m := fun m => by
    simp only [SamePost, pulsed]
    split
    · rfl
    · split
      · rfl
      · split <;> rfl
  cases q <;> exact heach _

/-! ## A STOP in SELFTEST (R186) -/

theorem abandonReference_eq (s : State) : abandonReference s = { s with acq := { s.acq with
    refSwitched := false, refRequested := false
    round := if s.acq.refSwitched then s.settings.round else s.acq.round } } := by
  unfold abandonReference
  cases h : s.acq.refSwitched with
  | true => rfl
  | false => simp only [Bool.false_eq_true, if_false]; rw [← h]

theorem read_fillFrames (f : Nat → Byte) {a : Nat} (h : a < 1843200) : Memory.read (fillFrames f) a = f a := by
  rw [fillFrames, Memory.read_cellsFrom, if_pos ⟨Nat.zero_le _, by simpa [Config.bufferBytes] using h⟩]
  simp [List.getD_eq_getElem?_getD, Config.bufferBytes, h]

/-- A byte after an abandoned frame-store item is one of the item's values or the old one (log entry 15). -/
theorem residueByte_mem (item : TestItem) (n : Nat) (old : Byte) (a : Nat) :
    residueByte item n old a ∈ residueValues item old a := by
  have hpos : 0 < (residueValues item old a).length := by
    unfold residueValues; split <;> exact Nat.succ_pos _
  have hlt := Nat.mod_lt (Config.residueChoice n a) hpos
  rw [residueByte, List.getD_eq_getElem _ _ hlt]
  exact List.getElem_mem _

/-- The abandoned frame-store item leaves residues in the buffers alone. -/
theorem abandonFrames_spec (item : TestItem) (s : State) : ∃ m n,
    abandonFrames item s = { s with frames := { s.frames with mem := m }, freeCount := n } ∧
      ∀ a, a < 1843200 → Memory.read m a ∈ residueValues item (Memory.read s.frames.mem a) a := by
  refine ⟨_, _, setFrames_counted _ _ s, fun a ha => ?_⟩
  rw [read_fillFrames _ ha]
  exact residueByte_mem ..

/-- What an abandoned item leaves (R78, R87, R183, R186), no indent being held. -/
def ItemAbandoned (item : TestItem) (s t : State) : Prop :=
  t = { s with turret := t.turret, act := t.act, acq := t.acq, frames := t.frames, freeCount := t.freeCount } ∧
  (item = .turret → t.turret = stoppedTurret s ∧ t.act = landed s) ∧
  (item ≠ .turret → t.turret = s.turret ∧ t.act = s.act) ∧
  ((item = .force ∨ item = .depth) → t.acq = { s.acq with
    refSwitched := false, refRequested := false
    round := if s.acq.refSwitched then s.settings.round else s.acq.round }) ∧
  (item ≠ .force → item ≠ .depth → t.acq = s.acq) ∧
  ((item = .pattern ∨ item = .address) → t.frames = { s.frames with mem := t.frames.mem } ∧
    ∀ a, a < 1843200 → Memory.read t.frames.mem a ∈ residueValues item (Memory.read s.frames.mem a) a) ∧
  (item ≠ .pattern → item ≠ .address → t.frames = s.frames ∧ t.freeCount = s.freeCount)

theorem itemAbandoned (item : TestItem) (hheld : s.act.held = none) : ItemAbandoned item s (abandonItem item s) := by
  have hframes : ∀ i, abandonItem item s = abandonFrames i s → item = i → (i = .pattern ∨ i = .address) →
      ItemAbandoned item s (abandonItem item s) := fun i heq hi hor => by
    obtain ⟨m, n, hm, hread⟩ := abandonFrames_spec i s
    rw [heq, hm]
    subst hi
    refine ⟨rfl, fun h => ?_, fun _ => ⟨rfl, rfl⟩, fun h => ?_, fun _ _ => rfl, fun _ => ⟨rfl, hread⟩, fun hp ha => ?_⟩
    · rcases hor with hor | hor <;> rw [hor] at h <;> exact nomatch h
    · rcases hor with hor | hor <;> rw [hor] at h <;> rcases h with h | h <;> exact nomatch h
    · exact absurd hor (not_or.mpr ⟨hp, ha⟩)
  have hreference : abandonItem item s = abandonReference s → (item = .force ∨ item = .depth) →
      ItemAbandoned item s (abandonItem item s) := fun heq hor => by
    rw [heq, abandonReference_eq]
    refine ⟨rfl, fun h => ?_, fun _ => ⟨rfl, rfl⟩, fun _ => rfl, fun hf hd => ?_, fun h => ?_, fun _ _ => ⟨rfl, rfl⟩⟩
    · rcases hor with hor | hor <;> rw [hor] at h <;> exact nomatch h
    · exact absurd hor (not_or.mpr ⟨hf, hd⟩)
    · rcases hor with hor | hor <;> rw [hor] at h <;> rcases h with h | h <;> exact nomatch h
  cases item with
  | pattern => exact hframes .pattern rfl rfl (.inl rfl)
  | address => exact hframes .address rfl rfl (.inr rfl)
  | force => exact hreference rfl (.inl rfl)
  | depth => exact hreference rfl (.inr rfl)
  | turret =>
    have hmotion : abandonItem .turret s = { s with turret := stoppedTurret s, act := landed s } :=
      abandonMotion_of_free hheld
    rw [hmotion]
    exact ⟨rfl, fun _ => ⟨rfl, rfl⟩, fun h => absurd rfl h, (fun h => by rcases h with h | h <;> exact nomatch h),
      fun _ _ => rfl, (fun h => by rcases h with h | h <;> exact nomatch h), fun _ _ => ⟨rfl, rfl⟩⟩

theorem SamePost.trans {m m' m'' : Mailbox} (h : SamePost m m') (k : SamePost m' m'') : SamePost m m'' := Eq.trans h k

/-- A STOP with a self-test running (R32, R186). -/
theorem takeStop_of_selftest {r : TestRun} (hh : s.arb.head = .selftest) (hr : s.selftest.run = some r)
    (hw : (s.mailbox r.port).state = .working) (hheld : s.act.held = none) :
    ∃ v, ItemAbandoned r.item { s with arb := stopArb s } v ∧
      takeStop s = { v with
        ports := (takeStop s).ports, arb := haltedArb { stopArb s with testFault := false }
        selftest := { run := none, last := some (.abandoned r.item) } } ∧
      ToldWith r.port (.ok (u8 2 ++ itemBytes r.item)) s (takeStop s) ∧
      ∀ q, q ≠ r.port → SamePost ((takeStop s).mailbox q) (s.mailbox q) := by
  have hitem := itemAbandoned (s := { s with arb := stopArb s }) r.item hheld
  have htake : takeStop s = answer r.port (.ok (u8 2 ++ itemBytes r.item))
      (haltHead (closeTest (.abandoned r.item) (abandonItem r.item { s with arb := stopArb s }))) := by
    rw [takeStop, hh, recordFault_stop_eq]
    simp only [abandonTest, hr, testPayload]
  refine ⟨_, hitem, ?_⟩
  generalize abandonItem r.item { s with arb := stopArb s } = v at hitem htake
  have hframe := hitem.1
  have harb : v.arb = stopArb s := by rw [hframe]
  have hports : v.ports = s.ports := by rw [hframe]
  have hne : (closeTest (.abandoned r.item) v).arb.head ≠ .halted := by
    show v.arb.head ≠ _
    rw [harb]
    show s.arb.head ≠ _
    rw [hh]; decide
  have hhalt := haltHead_of_not_halted hne
  have hposts : ∀ q, SamePost ((haltHead (closeTest (.abandoned r.item) v)).mailbox q) (s.mailbox q) := fun q => by
    rw [hhalt]
    show SamePost (forPort ⟨pulsed v.ports.a, pulsed v.ports.b, pulsed v.ports.c⟩ q) _
    rw [hports]
    exact samePost_pulsed q s.ports
  have hworking : { s.mailbox r.port with state := .working } = s.mailbox r.port := by rw [← hw]
  obtain ⟨hanswer, htold, hkept⟩ := answer_told (s := s) (p := r.port) (r := .ok (u8 2 ++ itemBytes r.item))
    (u := haltHead (closeTest (.abandoned r.item) v)) (by rw [hworking]; exact hposts r.port)
  rw [← htake] at hanswer htold hkept
  refine ⟨?_, htold, fun q hq => ?_⟩
  · rw [hhalt] at hanswer
    refine hanswer.trans ?_
    simp only [closeTest, harb]
    rfl
  · rw [hkept q hq]; exact hposts q

end

/-- A reply told in a state is told in any with the same mailbox. -/
theorem ToldWith.of_mailbox {p : Port} {r : Reply} {s s' t t' : State} (h : ToldWith p r s t)
    (hs : s'.mailbox p = s.mailbox p) (ht : t'.mailbox p = t.mailbox p) : ToldWith p r s' t' := by
  rw [ToldWith] at h ⊢
  rw [hs, ht]
  exact h

/-- Settles O25. -/
theorem stopHaltsTheHead : Obligations.StopHaltsTheHead := by
  unfold Obligations.StopHaltsTheHead
  intro c s hc hd hheld
  obtain ⟨P, hP, hexec⟩ := exec_of_takesStop hc
  refine ⟨fun hbusy htest => ?_, fun r hh hr hw => ?_⟩
  · have hdone : ∀ (ports : PerPort Mailbox) (arb : Arbiter) (turret : Turret) (act : Actuator),
        takeStop { s with ports := P, pins := stopPins c s } = { s with
          pins := stopPins c s, ports := ports, arb := arb, turret := turret, act := act } →
        (∀ q, SamePost (forPort ports q) (forPort P q)) → arb.due = false →
        ∃ t, exec c s = .next t ∧ t = { s with
            pins := stopPins c s, ports := t.ports, arb := arb, turret := turret, act := act } ∧
          ∀ p, c = .headStop p → ToldWith p (.ok (u8 (headCode s.arb.head))) s t :=
      fun ports arb turret act htake hsame hdue => by
        obtain ⟨t, ht, hframe, htold, -⟩ := hexec _ htake hdue fun q _ => hsame q
        exact ⟨t, ht, hframe, htold⟩
    by_cases hhalted : s.arb.head = .halted
    · obtain ⟨t, ht, hframe, htold⟩ := hdone P (stopArb s) s.turret s.act (takeStop_of_halted (s := { s with
        ports := P, pins := stopPins c s }) hhalted) (fun _ => rfl) hd
      refine ⟨t, ht, ?_, ?_, ?_, ?_, fun h => ?_, fun _ => ?_, ?_, ?_, ?_, htold⟩
      · rw [hframe]
      · rw [hframe, if_pos hhalted]; rfl
      · rw [hframe]; rfl
      · rw [hframe]; rfl
      · rcases h with h | h <;> rw [hhalted] at h <;> exact nomatch h
      · rw [hframe]; exact ⟨rfl, rfl⟩
      · rw [hframe]; rfl
      · rw [hframe]; rfl
      · rw [hframe]; rfl
    · by_cases hidle : s.arb.head = .idle
      · obtain ⟨t, ht, hframe, htold⟩ := hdone _ (haltedArb (stopArb s)) s.turret s.act (takeStop_of_idle (s := { s with
          ports := P, pins := stopPins c s }) hidle) (fun q => samePost_pulsed q P) hd
        refine ⟨t, ht, ?_, ?_, ?_, ?_, fun h => ?_, fun _ => ?_, ?_, ?_, ?_, htold⟩
        · rw [hframe]
        · rw [hframe, if_neg hhalted]; rfl
        · rw [hframe]; rfl
        · rw [hframe]; rfl
        · rcases h with h | h <;> rw [hidle] at h <;> exact nomatch h
        · rw [hframe]; exact ⟨rfl, rfl⟩
        · rw [hframe]; rfl
        · rw [hframe]; rfl
        · rw [hframe]; rfl
      · have hhoming : s.arb.head = .unready ∨ s.arb.head = .recovering := by
          cases hhead : s.arb.head with
          | unready => exact .inl rfl
          | recovering => exact .inr rfl
          | idle => exact absurd hhead hidle
          | busy => exact absurd hhead hbusy
          | selftest => exact absurd hhead htest
          | halted => exact absurd hhead hhalted
        obtain ⟨t, ht, hframe, htold⟩ := hdone _ (haltedArb (stopArb s)) (stoppedTurret s) (landed s) (takeStop_of_homing
          (s := { s with ports := P, pins := stopPins c s }) hhoming hheld) (fun q => samePost_pulsed q P) hd
        refine ⟨t, ht, ?_, ?_, ?_, ?_, fun _ => ?_, fun h => ?_, ?_, ?_, ?_, htold⟩
        · rw [hframe]
        · rw [hframe, if_neg hhalted]; rfl
        · rw [hframe]; rfl
        · rw [hframe]; rfl
        · rw [hframe]; exact ⟨rfl, rfl⟩
        · exact absurd h (not_or.mpr ⟨hidle, hhalted⟩)
        · rw [hframe]; rfl
        · rw [hframe]; rfl
        · rw [hframe]; rfl
  · have hbox : ({ s with ports := P, pins := stopPins c s } : State).mailbox r.port = s.mailbox r.port := hP _ hw
    obtain ⟨v, ⟨hvframe, hturret, hnoturret, hacq, hnoacq, hframes, hnoframes⟩, htake, htest, hposts⟩ :=
      takeStop_of_selftest (s := { s with ports := P, pins := stopPins c s }) hh hr (by rw [hbox]; exact hw) hheld
    obtain ⟨t, ht, hframe, htold, hkept⟩ := hexec _ rfl (by rw [htake]; exact hd) fun q hq =>
      hposts q fun hqr => by rw [hqr, hw] at hq; exact nomatch hq
    rw [htake] at hframe
    have hpins : v.pins = stopPins c s := by rw [hvframe]
    refine ⟨t, ht, ?_, fun hi => ?_, fun hi => ?_, fun hi => ?_, fun hf hdep => ?_, fun hi => ?_, fun hpat hadr => ?_,
      htest.of_mailbox hbox.symm (hkept _ hw), fun p hp => ?_⟩
    · rw [hframe, hvframe]
      rfl
    · rw [hframe]; exact hturret hi
    · rw [hframe]; exact hnoturret hi
    · rw [hframe]; exact hacq hi
    · rw [hframe]; exact hnoacq hf hdep
    · obtain ⟨hfr, hread⟩ := hframes hi
      refine ⟨?_, fun a ha => ?_⟩
      · rw [hframe]; exact hfr
      · have hmem := hread a ha
        rw [hframe]
        rcases hi with hi | hi
        · rw [hi] at hmem ⊢; exact hmem
        · rw [hi] at hmem ⊢; exact hmem
    · rw [hframe]; exact hnoframes hpat hadr
    · have := htold p hp
      rwa [hh] at this

end Sys2Proof.Machine
end

section
/-! PROOFS. A STOP with the head BUSY (R60): the point aborted, the turret and the actuator waited for. -/

namespace Sys2Proof.Machine

section
variable {s : State}

/-! ## CLEARING without a decision -/

theorem clearingDone_of_pendActuator (h : s.cycle.pendActuator = true) : clearingDone s = s := by
  unfold clearingDone
  rw [if_neg (by simp [h])]

/-- A record whose point halts the head makes no decision event (R38). -/
theorem clearingRecord_due {g : Granted} {j : Job} (hj : (s.slot g.slot).job = some j) (hp : s.pendingOf g.slot ≠ [])
    (hh : s.arb.head ≠ .halted) (hd : s.arb.due = false) (hhalt : s.cycle.haltOnEnd = true) :
    (clearingRecord g s).arb.due = false := by
  have hmap := clearingMapped_frame (s := s) (g := g) (j := j)
  rw [clearingRecord_of_job hj]
  generalize clearingMapped g j s = u at hmap
  rw [endPoint_of_pending (by rw [hmap]; exact hp)]
  have hframe := pointRecorded_frame g j (s.cycle.outcome.getD .aborted) (clearingBody s.cycle g j s.verif) (0, 0) u
  generalize pointRecorded g j (s.cycle.outcome.getD .aborted) (clearingBody s.cycle g j s.verif) (0, 0) u = v at hframe
  have harb : v.arb = s.arb := by rw [hframe, hmap]
  have hcycle : v.cycle = s.cycle := by rw [hframe, hmap]
  rw [cycleReturn_arb (by rw [harb]; exact hh), hcycle, hhalt, if_pos rfl, harb]
  exact hd

/-- The record of an aborted point, the head HALTED (R38, R58). -/
theorem recordCleared_of_halt {g : Granted} {j : Job} {st : Status} (hj : (s.slot g.slot).job = some j)
    (ho : s.cycle.outcome = some st) (hst : st ≠ .ok) (hp : s.pendingOf g.slot ≠ []) (hh : s.arb.head ≠ .halted)
    (hd : s.arb.due = false) (hhalt : s.cycle.haltOnEnd = true) : RecordCleared st g j s (clearingRecord g s) := by
  have hcleared := settle_clearingRecord hj ho hst hp hh hd fun h => Bool.noConfusion (hhalt.symm.trans h)
  rwa [settle_of_not_due (clearingRecord_due hj hp hh hd hhalt)] at hcleared

/-! ## The cycle on a STOP -/

/-- The cycle as a STOP in POSITIONING to MEASURING makes it (R60). -/
def abortedCycle (s : State) : Cycle := { s.cycle with
  state := .clearing, outcome := some .aborted, haltOnEnd := true, pendStage := false
  pendTurret := s.cycle.pendTurret && s.turret.rotating, pendActuator := !s.act.atRest }

/-- The work dropped and the cycle CLEARING, before the actuator is asked. -/
def abortedState (s : State) : State := { s with
  arb := stopArb s, stage := (dropWork s).stage, cap := (dropWork s).cap, meas := (dropWork s).meas, cycle := abortedCycle s }

theorem takeStop_of_busy (hh : s.arb.head = .busy) : takeStop s = stopCycle { s with arb := stopArb s } := by
  rw [takeStop, hh, recordFault_stop_eq]

/-- Dropping work looks at nothing but stage, capture and measurement. -/
theorem dropWork_of_same {u : State} (hstage : u.stage = s.stage) (hcap : u.cap = s.cap) (hmeas : u.meas = s.meas) :
    dropWork u = { u with stage := (dropWork s).stage, cap := (dropWork s).cap, meas := (dropWork s).meas } := by
  have hs : (dropWork u).stage = (dropWork s).stage := by
    rw [dropWork_stage, dropWork_stage]; exact withdrawOrder_stage_of_stage hstage
  have hc : (dropWork u).cap = (dropWork s).cap := by
    rw [dropWork_cap, dropWork_cap, abandonCapture_cap, abandonCapture_cap, hcap]
  have hm : (dropWork u).meas = (dropWork s).meas := by
    rw [dropWork_meas, dropWork_meas]
    simp only [abandonMeasure, hmeas]
    split
    · rfl
    · exact hmeas
  rw [← hs, ← hc, ← hm]
  exact dropWork_frame u

/-- CLEARING after a STOP, its work dropped: the actuator asked to retract unless it is at rest (R60). -/
def stopAsk (u : State) : State :=
  let s2 := onCycle (fun c => { clearingCycle u.turret u.act c with pendActuator := !u.act.atRest }) u
  if !u.act.atRest then retractRequest .cycle s2 else clearingDone s2

theorem stopWork_eq (s : State) :
    stopWork s = stopAsk (dropWork (onCycle (fun c => { c with outcome := some .aborted }) s)) := rfl

theorem stopCycle_of_work (hi : s.cycle.state ≠ .idle) (hc : s.cycle.state ≠ .clearing) :
    stopCycle { s with arb := stopArb s } =
      if s.act.atRest then clearingDone (abortedState s) else retractRequest .cycle (abortedState s) := by
  have hwork : stopCycle { s with arb := stopArb s } =
      stopWork { s with arb := stopArb s, cycle := { s.cycle with haltOnEnd := true } } := by
    cases hstate : s.cycle.state with
    | idle => exact absurd hstate hi
    | clearing => exact absurd hstate hc
    | positioning => simp only [stopCycle, hstate, onCycle]
    | indenting => simp only [stopCycle, hstate, onCycle]
    | viewing => simp only [stopCycle, hstate, onCycle]
    | capturing => simp only [stopCycle, hstate, onCycle]
    | measuring => simp only [stopCycle, hstate, onCycle]
  have hdrop := dropWork_of_same (s := s) (u := { s with
    arb := stopArb s, cycle := { s.cycle with haltOnEnd := true, outcome := some .aborted } }) rfl rfl rfl
  have hstep : stopWork { s with arb := stopArb s, cycle := { s.cycle with haltOnEnd := true } } =
      if !s.act.atRest then retractRequest .cycle (abortedState s) else clearingDone (abortedState s) := by
    rw [stopWork_eq]
    exact congrArg stopAsk hdrop
  rw [hwork, hstep]
  cases s.act.atRest <;> rfl

theorem workDropped_abortedState {t : State} (hstage : t.stage = (abortedState s).stage)
    (hcap : t.cap = (abortedState s).cap) (hmeas : t.meas = (abortedState s).meas) : WorkDropped s t :=
  workDropped_of_eq hstage hcap hmeas

/-! ## The retract request of a STOP (R100) -/

theorem retractRequest_of_moving_up {who : ActReq} (h : s.act.state = .unloading ∨ s.act.state = .retracting) :
    retractRequest who s = { s with act := { s.act with requester := some (who, .retract), held := none } } := by
  rcases h with h | h <;> simp only [retractRequest, h, onAct]

theorem retractRequest_of_approaching {who : ActReq} (h : s.act.state = .approaching) : retractRequest who s =
    enterRetracting { s with act := { s.act with requester := some (who, .retract), held := none } } := by
  simp only [retractRequest, h, onAct]

theorem retractRequest_of_loaded {who : ActReq} (h : s.act.state = .loading ∨ s.act.state = .dwelling) :
    retractRequest who s =
      abandonIndent { s with act := { s.act with requester := some (who, .retract), held := none } } := by
  rcases h with h | h <;> simp only [retractRequest, h, onAct]

/-- The known values with a depth reached, if there is one. -/
def knownWith (d : Option Int) (k : Known) : Known := if d.isSome then { k with depth := d } else k

theorem cycleDepth_eq (d : Option Int) (s : State) :
    cycleDepth d s = { s with cycle := { s.cycle with known := knownWith d s.cycle.known } } := by
  cases d <;> rfl

/-- An indent abandoned in CLEARING (R60, R100). -/
theorem abandonIndent_of_clearing (hs : s.cycle.state = .clearing) : abandonIndent s = { s with
    act := { s.act with state := .unloading, stallTimer := true, loadTimer := false, dwellTimer := false }
    cycle := { s.cycle with known := knownWith (s.act.reached s.acq.depth) s.cycle.known } } := by
  have habandoned : ∀ (d : Option Int) (u : State), u.cycle.state = .clearing → cycleAbandoned d u = { u with
      cycle := { u.cycle with known := knownWith d u.cycle.known } } := fun d u hu =>
    (if_pos hu).trans (cycleDepth_eq d u)
  rw [abandonIndent, habandoned _ _ (by exact hs)]
  rfl

theorem reached_of_contact {a : Actuator} {c d : Int} (hm : a.contactMade = true) (hc : a.contactDepth = some c) :
    a.reached (some d) = some (max 0 (d - c)) := by
  simp only [Actuator.reached, hm, hc]

theorem reached_of_no_contact {a : Actuator} {d : Option Int} (hm : a.contactMade = false) : a.reached d = none := by
  simp only [Actuator.reached, hm]

/-- An APPROACHING actuator at its top limit is RETRACTED at once, and the record follows (R97, R100). -/
theorem retract_of_top {g : Granted} (ha : s.act.state = .approaching) (htop : s.pins.topLimit = true)
    (hs : s.cycle.state = .clearing) (hg : s.cycle.granted = some g) (hstage : s.cycle.pendStage = false)
    (hturret : s.cycle.pendTurret = false) : retractRequest .cycle s = clearingRecord g { s with
      act := { s.act with
        state := .retracted, requester := none, held := none, stallTimer := false, loadTimer := false, dwellTimer := false }
      cycle := { s.cycle with pendActuator := false } } := by
  have hret : enterRetracting { s with act := { s.act with requester := some (.cycle, .retract), held := none } } =
      becomeRetracted { s with act := { s.act with
        state := .retracting, requester := some (.cycle, .retract), held := none, stallTimer := true, loadTimer := false
        dwellTimer := false } } := if_pos htop
  have hdone : cycleRetracted { s with act := { s.act with
        state := .retracted, requester := none, held := none, stallTimer := false, loadTimer := false
        dwellTimer := false } } = clearingRecord g { s with
      act := { s.act with
        state := .retracted, requester := none, held := none, stallTimer := false, loadTimer := false, dwellTimer := false }
      cycle := { s.cycle with pendActuator := false } } := by
    have hclear := clearingDone_of_done (g := g) (s := { s with
      act := { s.act with
        state := .retracted, requester := none, held := none, stallTimer := false, loadTimer := false, dwellTimer := false }
      cycle := { s.cycle with pendActuator := false } }) hs hg hstage hturret rfl
    rw [← hclear, cycleRetracted, hs]
    rfl
  rw [retractRequest_of_approaching ha, hret]
  refine becomeRetracted_of_cycle rfl hdone ?_
  rw [clearingRecord_frame]

/-- What a retract request of the cycle does to an actuator that is not at rest, below its top limit or loaded (R100). -/
def Retracting (s : State) (act : Actuator) (known : Known) : Prop :=
  ((s.act.state = .loading ∨ s.act.state = .dwelling) →
    act = { s.act with
      state := .unloading, requester := some (.cycle, .retract), held := none, stallTimer := true, loadTimer := false
      dwellTimer := false } ∧
    (∀ from' d, s.act.contactMade = true → s.act.contactDepth = some from' → s.acq.depth = some d →
      known = { s.cycle.known with depth := some (max 0 (d - from')) }) ∧
    (s.act.contactMade = false → known = s.cycle.known)) ∧
  (s.act.state = .approaching → known = s.cycle.known ∧ act = { s.act with
    state := .retracting, requester := some (.cycle, .retract), held := none, stallTimer := true, loadTimer := false
    dwellTimer := false }) ∧
  ((s.act.state = .unloading ∨ s.act.state = .retracting) → known = s.cycle.known ∧
    act = { s.act with requester := some (.cycle, .retract), held := none })

theorem retractRequest_of_clearing (hs : s.cycle.state = .clearing) (hrest : s.act.atRest = false)
    (hnot : ¬ (s.act.state = .approaching ∧ s.pins.topLimit = true)) : ∃ act known,
    retractRequest .cycle s = { s with act := act, cycle := { s.cycle with known := known } } ∧
      Retracting s act known := by
  have hloaded : (s.act.state = .loading ∨ s.act.state = .dwelling) → ∃ act known,
      retractRequest .cycle s = { s with act := act, cycle := { s.cycle with known := known } } ∧
        Retracting s act known := fun h => by
    refine ⟨_, _, (retractRequest_of_loaded h).trans (abandonIndent_of_clearing (by exact hs)),
      fun _ => ⟨rfl, fun c d hm hc hd => ?_, fun hm => ?_⟩, fun ha => ?_, fun hu => ?_⟩
    · show knownWith (Actuator.reached _ s.acq.depth) s.cycle.known = _
      rw [hd, reached_of_contact (by exact hm) (by exact hc)]
      rfl
    · show knownWith (Actuator.reached _ s.acq.depth) s.cycle.known = _
      rw [reached_of_no_contact (by exact hm)]
      rfl
    · rcases h with h | h <;> rw [h] at ha <;> exact nomatch ha
    · rcases h with h | h <;> rw [h] at hu <;> rcases hu with hu | hu <;> exact nomatch hu
  have hup : (s.act.state = .unloading ∨ s.act.state = .retracting) → ∃ act known,
      retractRequest .cycle s = { s with act := act, cycle := { s.cycle with known := known } } ∧
        Retracting s act known := fun h => by
    refine ⟨_, s.cycle.known, retractRequest_of_moving_up h, fun hl => ?_, fun ha => ?_, fun _ => ⟨rfl, rfl⟩⟩
    · rcases h with h | h <;> rw [h] at hl <;> rcases hl with hl | hl <;> exact nomatch hl
    · rcases h with h | h <;> rw [h] at ha <;> exact nomatch ha
  cases hact : s.act.state with
  | retracted => simp [Actuator.atRest, hact] at hrest
  | stalled => simp [Actuator.atRest, hact] at hrest
  | loading => exact hloaded (.inl hact)
  | dwelling => exact hloaded (.inr hact)
  | unloading => exact hup (.inl hact)
  | retracting => exact hup (.inr hact)
  | approaching =>
    have htop : s.pins.topLimit = false := Bool.eq_false_iff.mpr fun h => hnot ⟨hact, h⟩
    refine ⟨_, s.cycle.known, (retractRequest_of_approaching hact).trans (enterRetracting_of_below (by exact htop)),
      fun hl => ?_, fun _ => ⟨rfl, rfl⟩, fun hu => ?_⟩
    · rw [hact] at hl; rcases hl with hl | hl <;> exact nomatch hl
    · rw [hact] at hu; rcases hu with hu | hu <;> exact nomatch hu

/-- A STOP in CLEARING (R60; log entry 28). -/
theorem stopCycle_of_clearing (hs : s.cycle.state = .clearing)
    (hact : s.act.atRest = true ∨ s.act.state = .unloading ∨ s.act.state = .retracting) : ∃ act pend,
    stopCycle s = { s with act := act, cycle := { s.cycle with haltOnEnd := true, pendActuator := pend } } ∧
      if s.cycle.granted.isSome ∧ s.act.atRest = false ∧ s.act.requester ≠ some (.cycle, .retract) then
        pend = true ∧ act = { s.act with requester := some (.cycle, .retract), held := none }
      else pend = s.cycle.pendActuator ∧ act = s.act := by
  have hstop : stopCycle s = stopClearing { s with cycle := { s.cycle with haltOnEnd := true } } := by
    rw [stopCycle, hs]; rfl
  by_cases hask : s.cycle.granted.isSome = true ∧ s.act.atRest = false ∧ s.act.requester ≠ some (.cycle, .retract)
  · obtain ⟨hgranted, hrest, hreq⟩ := hask
    have hup : s.act.state = .unloading ∨ s.act.state = .retracting :=
      hact.resolve_left fun h => Bool.noConfusion (h.symm.trans hrest)
    have hretract := retractRequest_of_moving_up (who := .cycle)
      (s := { s with cycle := { s.cycle with haltOnEnd := true, pendActuator := true } }) hup
    refine ⟨_, true, ?_, by rw [if_pos ⟨hgranted, hrest, hreq⟩]; exact ⟨rfl, rfl⟩⟩
    rw [hstop, stopClearing, if_pos (by simp [hgranted, hrest, hreq])]
    exact hretract
  · refine ⟨s.act, s.cycle.pendActuator, ?_, by rw [if_neg hask]; exact ⟨rfl, rfl⟩⟩
    rw [hstop, stopClearing, if_neg (by simpa [and_assoc] using hask)]

/-- The actuator of a point that ends at a STOP at once: at rest, or at its top limit while it approached (R60, R97). -/
def restedAct (a : Actuator) : Actuator :=
  if a.atRest then a
  else { a with
    state := .retracted, requester := none, held := none, stallTimer := false, loadTimer := false, dwellTimer := false }

/-- The state whose record a STOP with nothing to wait for writes (R60). -/
def stoppedState (s : State) : State := { s with
  arb := stopArb s, stage := (dropWork s).stage, cap := (dropWork s).cap, meas := (dropWork s).meas
  act := restedAct s.act, cycle := { abortedCycle s with pendActuator := false } }

theorem stopCycle_of_rested {g : Granted} (hi : s.cycle.state ≠ .idle) (hc : s.cycle.state ≠ .clearing)
    (hact : s.act.atRest = true ∨ (s.act.state = .approaching ∧ s.pins.topLimit = true))
    (hturret : (s.cycle.pendTurret && s.turret.rotating) = false) (hg : s.cycle.granted = some g) :
    stopCycle { s with arb := stopArb s } = clearingRecord g (stoppedState s) := by
  rw [stopCycle_of_work hi hc]
  cases hrest : s.act.atRest with
  | true =>
    have hsame : abortedState s = stoppedState s := by
      simp only [abortedState, stoppedState, restedAct, abortedCycle, hrest, if_true, Bool.not_true]
    rw [if_pos rfl, hsame]
    exact clearingDone_of_done rfl hg rfl hturret rfl
  | false =>
    obtain ⟨ha, htop⟩ := hact.resolve_left fun h => Bool.noConfusion (h.symm.trans hrest)
    have hrested : stoppedState s = { abortedState s with
        act := { s.act with
          state := .retracted, requester := none, held := none, stallTimer := false, loadTimer := false
          dwellTimer := false }
        cycle := { abortedCycle s with pendActuator := false } } := by
      rw [stoppedState, restedAct, if_neg (by simp [hrest])]
      rfl
    rw [if_neg (by decide), hrested]
    exact retract_of_top (s := abortedState s) ha htop rfl hg rfl hturret

/-- The record of a point aborted with nothing to wait for: the head is HALTED (R38, R60). -/
theorem recordCleared_stoppedState {g : Granted} {j : Job} (hj : s.cycleJob = some (g, j)) (hp : s.pendingOf g.slot ≠ [])
    (hh : s.arb.head ≠ .halted) (hd : s.arb.due = false) :
    (clearingRecord g (stoppedState s)).arb.due = false ∧
      RecordCleared .aborted g j (stoppedState s) (clearingRecord g (stoppedState s)) :=
  have hjob : ((stoppedState s).slot g.slot).job = some j := (cycleJob_eq hj).2
  ⟨clearingRecord_due hjob hp hh hd rfl, recordCleared_of_halt hjob rfl (by decide) hp hh hd rfl⟩

end

/-- Settles O26: the work dropped and the cycle aborted are the same in every case; the actuator's state tells what
follows. -/
theorem stopAbortsTheRunningPoint : Obligations.StopAbortsTheRunningPoint := by
  unfold Obligations.StopAbortsTheRunningPoint
  intro c s hc hh hd
  obtain ⟨P, -, hexec⟩ := exec_of_takesStop hc
  have hdone : ∀ u, stopCycle { s with ports := P, pins := stopPins c s, arb := stopArb s } = u →
      u.arb.due = false → PulsedOnly { s with ports := P } u →
      ∃ t, exec c s = .next t ∧ t = { u with ports := t.ports } ∧
        ∀ p, c = .headStop p → ToldWith p (.ok (u8 2)) s t := fun u hu hdue hpulse => by
    obtain ⟨t, ht, hframe, htold, -⟩ := hexec u
      ((takeStop_of_busy (s := { s with ports := P, pins := stopPins c s }) hh).trans hu) hdue fun q _ => hpulse q
    refine ⟨t, ht, hframe, fun p hp => ?_⟩
    have := htold p hp
    rwa [hh] at this
  have hne : s.arb.head ≠ .halted := by rw [hh]; decide
  have hfault : stopFault s = ⟨.stop, none, .busy, s.grantedPoint.map fun g => (s.handle g.slot, g.index)⟩ := by
    rw [stopFault, hh]
  rw [← hfault]
  refine ⟨fun hi hcl => ?_, fun hs hact => ?_⟩
  · have hwork := stopCycle_of_work (s := { s with ports := P, pins := stopPins c s }) hi hcl
    refine ⟨fun hrest hturn => ?_, fun hrest hnottop => ?_, fun g j hact hturn hj hp => ?_⟩
    · rw [if_pos (by exact hrest), clearingDone_of_pending (by exact hturn)] at hwork
      obtain ⟨t, ht, hframe, htold⟩ := hdone _ hwork hd (.of_ports rfl)
      have hpend : s.cycle.pendTurret = true := (Bool.and_eq_true_iff.mp hturn).1
      have hcycle : abortedCycle { s with ports := P, pins := stopPins c s } = { s.cycle with
          state := .clearing, outcome := some .aborted, haltOnEnd := true, pendStage := false
          pendActuator := false } := by
        simp only [abortedCycle, hrest, hturn, Bool.not_true]
        rw [← hpend]
      have hdropped : WorkDropped s t := workDropped_abortedState (s := { s with ports := P, pins := stopPins c s })
        (by rw [hframe]) (by rw [hframe]) (by rw [hframe])
      refine ⟨t, ht, ?_, hdropped, htold⟩
      rw [← hcycle, hframe]
      rfl
    · obtain ⟨act, known, hret, hloaded, happroach, hup⟩ := retractRequest_of_clearing
        (s := abortedState { s with ports := P, pins := stopPins c s }) rfl hrest hnottop
      rw [if_neg (by show ¬ s.act.atRest = true; rw [hrest]; decide), hret] at hwork
      obtain ⟨t, ht, hframe, htold⟩ := hdone _ hwork hd (.of_ports rfl)
      have hact : t.act = act := by rw [hframe]
      have hknown : t.cycle.known = known := by rw [hframe]
      have hcycle : abortedCycle { s with ports := P, pins := stopPins c s } = { s.cycle with
          state := .clearing, outcome := some .aborted, haltOnEnd := true, pendStage := false
          pendTurret := s.cycle.pendTurret && s.turret.rotating, pendActuator := true } := by
        simp only [abortedCycle, hrest, Bool.not_false]
      have hdropped : WorkDropped s t := workDropped_abortedState (s := { s with ports := P, pins := stopPins c s })
        (by rw [hframe]) (by rw [hframe]) (by rw [hframe])
      refine ⟨t, ht, ?_, hdropped, ?_, ?_, ?_, htold⟩
      · have hwith : { s.cycle with
            state := .clearing, outcome := some .aborted, haltOnEnd := true, pendStage := false
            pendTurret := s.cycle.pendTurret && s.turret.rotating, pendActuator := true, known := known } =
            { abortedCycle { s with ports := P, pins := stopPins c s } with known := known } := by rw [hcycle]
        rw [hknown, hwith, hframe]
        rfl
      · rw [hact, hknown]; exact hloaded
      · rw [hact, hknown]; exact happroach
      · rw [hact, hknown]; exact hup
    · have hrested := stopCycle_of_rested (s := { s with ports := P, pins := stopPins c s }) hi hcl hact hturn
        (cycleJob_eq hj).1
      obtain ⟨hdue, hcleared⟩ := recordCleared_stoppedState (s := { s with ports := P, pins := stopPins c s }) hj hp hne hd
      generalize clearingRecord g (stoppedState { s with ports := P, pins := stopPins c s }) = u at hrested hdue hcleared
      obtain ⟨hpoint, hpulse, huframe⟩ := hcleared
      obtain ⟨t, ht, hframe, htold⟩ := hdone u hrested hdue ((PulsedOnly.of_ports rfl).trans hpulse)
      have hdropped : WorkDropped s u := workDropped_abortedState (s := { s with ports := P, pins := stopPins c s })
        (by rw [huframe]; rfl) (by rw [huframe]; rfl) (by rw [huframe]; rfl)
      refine ⟨t, ht, ?_, by rw [hframe]; exact hdropped, by rw [hframe]; exact hpoint, htold⟩
      rw [hframe, huframe]
      rfl
  · obtain ⟨act, pend, hclear, hask⟩ := stopCycle_of_clearing (s := { s with
      ports := P, pins := stopPins c s, arb := stopArb s }) hs hact
    obtain ⟨t, ht, hframe, htold⟩ := hdone _ hclear hd (.of_ports rfl)
    have hact' : t.act = act := by rw [hframe]
    have hpend : t.cycle.pendActuator = pend := by rw [hframe]
    refine ⟨t, ht, ?_, ?_, htold⟩
    · rw [hact', hpend, hframe]
      rfl
    · rw [hact', hpend]; exact hask

end Sys2Proof.Machine
end

section
/-! PROOFS. Acquisition and the actuator (R81 to R99): straight-line tables, the published round, the readings of an
indent, and the actuator's timers. -/

namespace Sys2Proof.Machine

/-! ## Straight-line tables (R84, R148) -/

section
variable {m : Int} {p q : Int × Int} {rest : List (Int × Int)}

theorem onTable_of_lt (h : m < q.1) : onTable m (p :: q :: rest) = onSegment m p q := by
  cases rest with
  | nil => rfl
  | cons r rest => rw [onTable, if_pos h]

theorem onTable_of_ge (h : q.1 ≤ m) (hr : rest ≠ []) : onTable m (p :: q :: rest) = onTable m (q :: rest) := by
  cases rest with
  | nil => exact absurd rfl hr
  | cons r rest => rw [onTable, if_neg (not_lt.mpr h)]

theorem roundHalfUp_mul_self {b : Int} (c : Int) (hb : 0 < b) : roundHalfUp (b * c) b = c := by
  have hsum : 2 * (b * c) + b = b + c * (2 * b) := by ring
  rw [roundHalfUp, hsum, Int.add_mul_ediv_right _ _ (by omega), Int.ediv_eq_zero_of_lt hb.le (by omega), zero_add]

theorem onSegment_left (h : p.1 < q.1) : onSegment p.1 p q = p.2 := by
  have hzero := roundHalfUp_mul_self 0 (sub_pos.mpr h)
  rw [mul_zero] at hzero
  rw [onSegment, sub_self, zero_mul, hzero, add_zero]

theorem onSegment_right (h : p.1 < q.1) : onSegment q.1 p q = q.2 := by
  rw [onSegment, roundHalfUp_mul_self _ (sub_pos.mpr h), add_sub_cancel]

theorem onTable_of_mem {x : Int × Int} (hsorted : (p :: q :: rest).Pairwise (fun a b => a.1 < b.1))
    (hx : x ∈ p :: q :: rest) : onTable x.1 (p :: q :: rest) = x.2 := by
  induction rest generalizing p q with
  | nil =>
    have hpq : p.1 < q.1 := List.rel_of_pairwise_cons hsorted (List.mem_singleton_self q)
    rcases List.mem_cons.mp hx with rfl | hx
    · exact onSegment_left hpq
    · rw [List.mem_singleton.mp hx]; exact onSegment_right hpq
  | cons r rest ih =>
    have hpq : p.1 < q.1 := List.rel_of_pairwise_cons hsorted List.mem_cons_self
    have htail := hsorted.of_cons
    rcases List.mem_cons.mp hx with rfl | hx
    · rw [onTable_of_lt hpq, onSegment_left hpq]
    · have hle : q.1 ≤ x.1 := by
        rcases List.mem_cons.mp hx with rfl | hx
        · exact le_rfl
        · exact (List.rel_of_pairwise_cons htail hx).le
      rw [onTable_of_ge hle (List.cons_ne_nil r rest), ih htail hx]

theorem onTable_of_gt_last {init : List (Int × Int)} (hsorted : (init ++ [p, q]).Pairwise (fun a b => a.1 < b.1))
    (h : q.1 < m) : onTable m (init ++ [p, q]) = onSegment m p q := by
  induction init with
  | nil => rfl
  | cons a init ih =>
    have hbefore : ∀ x ∈ init ++ [p], x.1 < q.1 := fun x hx => by
      rw [List.append_cons] at hsorted
      exact (List.pairwise_append.mp hsorted).2.2 x (List.mem_cons_of_mem a hx) q (List.mem_singleton_self q)
    cases init with
    | nil => exact onTable_of_ge ((hbefore p (List.mem_singleton_self p)).trans h).le (List.cons_ne_nil q [])
    | cons b init =>
      rw [← ih hsorted.of_cons]
      exact onTable_of_ge ((hbefore b List.mem_cons_self).trans h).le (by simp)

end

/-- Settles O43. -/
theorem tablesPassThroughTheirPoints : Obligations.TablesPassThroughTheirPoints := by
  unfold Obligations.TablesPassThroughTheirPoints
  intro pts hlen hsorted
  refine ⟨fun x hx => ?_, fun p q rest m hpts hm => ?_, fun init p q m hpts hm => ?_⟩
  · match pts, hlen with
    | p :: q :: rest, _ => exact onTable_of_mem hsorted hx
  · have hpq : p.1 < q.1 := by rw [hpts] at hsorted; exact List.rel_of_pairwise_cons hsorted List.mem_cons_self
    rw [hpts]
    exact onTable_of_lt (hm.trans hpq)
  · rw [hpts] at hsorted ⊢
    exact onTable_of_gt_last hsorted hm

/-! ## The round (R82 to R86) -/

section
variable {s : State} {codes : List Word16} {code : Word16}

theorem roundEnd_of_fits (hr : s.acq.refSwitched = false) (hn : codes.length = s.acq.round.n) (hne : codes ≠ []) :
    roundEnd codes code s = nextRound (readingEvent (publishRound codes code s)) := by
  have hfits : s.acq.fits codes = true := by
    rw [Acquisition.fits, decide_eq_true hn, decide_eq_true (mt List.length_eq_zero_iff.mp hne)]
    rfl
  rw [roundEnd, hr, hfits]
  rfl

theorem roundEnd_of_not_fits (h : s.acq.refSwitched = true ∨ codes.length ≠ s.acq.round.n) :
    roundEnd codes code s = s := by
  refine if_neg fun hrun => ?_
  simp only [Acquisition.fits, Bool.and_eq_true, Bool.not_eq_true', decide_eq_true_eq] at hrun
  rcases h with h | h
  · exact Bool.noConfusion (hrun.1.symm.trans h)
  · exact h hrun.2.1

/-- No reading event reaches an actuator at rest or lifting (R86). -/
theorem readingEvent_of_up (h : s.act.state = .retracted ∨ s.act.state = .retracting ∨ s.act.state = .stalled) :
    readingEvent s = s := by
  unfold readingEvent
  split
  · rcases h with h | h | h <;> simp only [taredReading, h]
  · rcases h with h | h | h <;> simp only [forcelessReading, h]
  · rfl

theorem exec_roundEnd_of_fits {u : State} (hr : s.acq.refSwitched = false) (hn : codes.length = s.acq.round.n)
    (hne : codes ≠ []) (hu : readingEvent (publishRound codes code s) = u) (hd : u.arb.due = false) :
    exec (.roundEnd codes code) s = .next (nextRound u) := by
  show execRoundEnd codes code s = _
  rw [execRoundEnd, roundEnd_of_fits hr hn hne, hu, settle_of_not_due (by exact hd)]

end

/-- Settles O42. -/
theorem roundEndPublishes : Obligations.RoundEndPublishes := by
  unfold Obligations.RoundEndPublishes
  intro codes code s hd
  refine ⟨fun hr hn hne hup => ?_, fun h => ?_⟩
  · rw [exec_roundEnd_of_fits hr hn hne (readingEvent_of_up (by exact hup)) (by exact hd)]
    simp only [nextRound, publishRound, Bool.decide_or, hr]
    rfl
  · show execRoundEnd codes code s = _
    rw [execRoundEnd, roundEnd_of_not_fits h, settle_of_not_due hd]

/-! ## The readings of an indent (R93 to R96) -/

section
variable {s : State} {p : IndentParams} {f : Int}

theorem isOverload_of_le (h : f * 10 ≤ 11 * p.force) (hmax : f * 10 ≤ 11 * p.maxForce) : isOverload p f = false := by
  simp only [isOverload, Bool.or_eq_false_iff, decide_eq_false_iff_not]
  omega

theorem inBand_iff {n : Nat} : inBand n f = true ↔ (f - n).natAbs * 100 ≤ n := by
  simp only [inBand, decide_eq_true_eq]
  omega

theorem isUnstable_of_le {n : Nat} (h : (f - n).natAbs * 50 ≤ n) : isUnstable n f = false := by
  simp only [isUnstable, decide_eq_false_iff_not]
  omega

theorem readingEvent_of_force {raw : Int} (hp : s.act.params = some p) (hraw : s.acq.force = some raw) :
    readingEvent s = taredReading p (raw - s.act.tare) s := by
  simp only [readingEvent, hp, hraw]

theorem taredReading_of_approaching (h : s.act.state = .approaching) : taredReading p f s = judgeApproach p f s := by
  simp only [taredReading, h]

theorem taredReading_of_loading (h : s.act.state = .loading) : taredReading p f s = judgeLoading p f s := by
  simp only [taredReading, h]

theorem taredReading_of_dwelling (h : s.act.state = .dwelling) : taredReading p f s = judgeDwelling p f s := by
  simp only [taredReading, h]

theorem judgeLoading_of_below (ho : isOverload p f = false) (hb : p.force < (f - p.force).natAbs * 100) :
    judgeLoading p f s = s := by
  rw [judgeLoading, ho, if_neg (by decide), if_neg fun hin => by rw [inBand_iff] at hin; omega]

theorem judgeLoading_of_inBand (ho : isOverload p f = false) (hb : (f - p.force).natAbs * 100 ≤ p.force) :
    judgeLoading p f s = startDwell p f s := by
  rw [judgeLoading, ho, if_neg (by decide), if_pos (inBand_iff.mpr hb)]

theorem judgeApproach_of_contact (ho : isOverload p f = false) (ht : p.threshold ≤ f)
    (hb : p.force < (f - p.force).natAbs * 100) (hs : s.cycle.state = .indenting) : judgeApproach p f s = { s with
      act := { s.act with
        state := .loading, contactMade := true, contactForce := some f, contactDepth := s.acq.depth, target := some f
        loadTimer := true, rampMs := 0 }
      cycle := { s.cycle with contactMade := true } } := by
  rw [judgeApproach, if_pos ht, judgeLoading_of_below ho hb, makeContact, cycleContact, if_pos (by exact hs)]
  rfl

theorem judgeDwelling_of_stable (ho : isOverload p f = false) (hb : (f - p.force).natAbs * 50 ≤ p.force) :
    judgeDwelling p f s =
      { s with act := { s.act with dwellSum := s.act.dwellSum + f, dwellCount := s.act.dwellCount + 1 } } := by
  rw [judgeDwelling, ho, if_neg (by decide), isUnstable_of_le hb, if_neg (by decide)]
  rfl

theorem travelPassed_iff {ref depth : Option Int} : travelPassed p ref depth = true ↔
    ∃ r d, ref = some r ∧ depth = some d ∧ (p.travel : Int) * 1000 < d - r := by
  cases ref with
  | none => simp [travelPassed]
  | some r =>
    cases depth with
    | none => simp [travelPassed]
    | some d => simp only [travelPassed, decide_eq_true_eq, Option.some.injEq, exists_eq_left', exists_and_left]

/-! ## Failures of a cycle that the actuator outlives (R96, R98) -/

theorem cycleActuatorFailed_of_local {st : Status} {d : Option Int} (hst : st ≠ .actuatorStall ∧ st ≠ .overload)
    (hs : s.cycle.state = .indenting) : cycleActuatorFailed st d s =
      failPoint st { s with cycle := { s.cycle with known := knownWith d s.cycle.known } } := by
  have hlocal : ¬ (st = .actuatorStall ∨ st = .overload) := not_or.mpr hst
  simp only [cycleActuatorFailed, onCycle, hs, if_neg hlocal, cycleDepth_eq, decide_eq_false hst.1, Bool.not_false,
    Bool.and_true]

/-- A point failed while the actuator is under way: the cycle is CLEARING and waits for it (R55, R56). -/
theorem failPoint_of_waiting {st : Status} (hpend : s.cycle.pendActuator = true) (hrest : s.act.atRest = false) :
    failPoint st s = { s with
      stage := (dropWork s).stage, cap := (dropWork s).cap, meas := (dropWork s).meas
      cycle := { s.cycle with
        state := .clearing, outcome := some st, pendStage := false
        pendTurret := s.cycle.pendTurret && s.turret.rotating } } := by
  have hdrop := dropWork_of_same (s := s) (u := { s with cycle := { s.cycle with outcome := some st } }) rfl rfl rfl
  have hpending : (s.cycle.pendActuator && !s.act.atRest) = true := by rw [hpend, hrest]; rfl
  have hclear : clearingCycle s.turret s.act { s.cycle with outcome := some st } = { s.cycle with
      state := .clearing, outcome := some st, pendStage := false
      pendTurret := s.cycle.pendTurret && s.turret.rotating } := by
    simp only [clearingCycle, hpending]
    rw [← hpend]
  have henter := enterClearing_eq { s with cycle := { s.cycle with outcome := some st } }
  rw [hdrop] at henter
  refine henter.trans ((clearingDone_of_pendActuator hpending).trans ?_)
  rw [← hclear]

/-- A failure in INDENTING that lifts the spindle (R47, R96, R98). -/
theorem failCycle_of_waiting {st : Status} (hst : st ≠ .actuatorStall ∧ st ≠ .overload) (hs : s.cycle.state = .indenting)
    (hpend : s.cycle.pendActuator = true) (hrest : s.act.atRest = false) : failCycle st s = { s with
      act := { s.act with lastFailure := some st, loadTimer := false, dwellTimer := false }
      stage := (dropWork s).stage, cap := (dropWork s).cap, meas := (dropWork s).meas
      cycle := { s.cycle with
        state := .clearing, outcome := some st, pendStage := false, pendTurret := s.cycle.pendTurret && s.turret.rotating
        known := knownWith (s.act.reached s.acq.depth) s.cycle.known } } := by
  have hdrop := dropWork_of_same (s := s) (u := { s with
    act := { s.act with lastFailure := some st, loadTimer := false, dwellTimer := false }
    cycle := { s.cycle with known := knownWith (s.act.reached s.acq.depth) s.cycle.known } }) rfl rfl rfl
  have hfail := failPoint_of_waiting (st := st) (s := { s with
    act := { s.act with lastFailure := some st, loadTimer := false, dwellTimer := false }
    cycle := { s.cycle with known := knownWith (s.act.reached s.acq.depth) s.cycle.known } }) hpend hrest
  rw [hdrop] at hfail
  exact (cycleActuatorFailed_of_local hst (by exact hs)).trans hfail

end

/-- Settles O44. -/
theorem roundsDriveTheIndent : Obligations.RoundsDriveTheIndent := by
  unfold Obligations.RoundsDriveTheIndent
  intro codes code p s hd hr hn hne hp hs
  refine ⟨fun raw f hraw hf hforce hmax hcase => ?_, fun ha hno => ?_⟩
  · have ho := isOverload_of_le hforce hmax
    have hread : readingEvent (publishRound codes code s) = taredReading p f (publishRound codes code s) := by
      rw [readingEvent_of_force (s := publishRound codes code s) hp hraw, hf]
      rfl
    rcases hcase with ⟨ha, hthr, hband⟩ | ha | ⟨ha, hband⟩
    · have hu := hread.trans ((taredReading_of_approaching (by exact ha)).trans
        (judgeApproach_of_contact (s := publishRound codes code s) ho hthr hband hs))
      refine ⟨_, exec_roundEnd_of_fits hr hn hne hu hd, rfl, hraw, rfl, fun _ => ⟨rfl, rfl⟩, fun h => ?_, fun h => ?_⟩
      · rw [ha] at h; exact nomatch h
      · rw [ha] at h; exact nomatch h
    · have hu := hread.trans (taredReading_of_loading (s := publishRound codes code s) ha)
      by_cases hband : (f - p.force).natAbs * 100 ≤ p.force
      · rw [judgeLoading_of_inBand ho hband] at hu
        refine ⟨_, exec_roundEnd_of_fits hr hn hne hu hd, rfl, hraw, rfl, fun h => ?_,
          fun _ => ⟨rfl, fun _ => rfl, fun h => absurd hband (by omega)⟩, fun h => ?_⟩
        · rw [ha] at h; exact nomatch h
        · rw [ha] at h; exact nomatch h
      · rw [judgeLoading_of_below ho (by omega)] at hu
        refine ⟨_, exec_roundEnd_of_fits hr hn hne hu hd, rfl, hraw, rfl, fun h => ?_,
          fun _ => ⟨rfl, fun h => absurd h hband, fun _ => rfl⟩, fun h => ?_⟩
        · rw [ha] at h; exact nomatch h
        · rw [ha] at h; exact nomatch h
    · have hu := hread.trans ((taredReading_of_dwelling (by exact ha)).trans
        (judgeDwelling_of_stable (s := publishRound codes code s) ho hband))
      refine ⟨_, exec_roundEnd_of_fits hr hn hne hu hd, rfl, hraw, rfl, fun h => ?_, fun h => ?_, fun _ => ⟨rfl, rfl⟩⟩
      · rw [ha] at h; exact nomatch h
      · rw [ha] at h; exact nomatch h
  · intro depth past
    have hread : readingEvent (publishRound codes code s) = judgeTravel p (publishRound codes code s) :=
      readingEvent_no_contact (by exact hp) (by exact ha) hno
    have hpast : (travelPassed p s.act.refDepth depth || (publishRound codes code s).acq.saturated) = true ↔ past := by
      rw [Bool.or_eq_true, travelPassed_iff]
      exact or_congr Iff.rfl (by simp [publishRound])
    refine ⟨fun hnot => ?_, fun hpassed hcontact htop hpend => ?_⟩
    · have hu := hread.trans (if_neg fun h => hnot (hpast.mp h))
      exact ⟨_, exec_roundEnd_of_fits hr hn hne hu hd, rfl, rfl, rfl⟩
    · have hfail := failCycle_of_waiting (st := .noContact) (s := publishRound codes code s) (by decide) hs hpend
        (by show s.act.atRest = false; simp [Actuator.atRest, ha])
      rw [reached_of_no_contact (by exact hcontact)] at hfail
      have hu := hread.trans ((if_pos (hpast.mpr hpassed)).trans (congrArg enterRetracting hfail))
      rw [enterRetracting_of_below (by exact htop)] at hu
      have hdropped : WorkDropped s _ := workDropped_of_eq (s := publishRound codes code s) rfl rfl rfl
      exact ⟨_, exec_roundEnd_of_fits hr hn hne hu hd, rfl, hdropped, rfl, rfl, rfl, rfl⟩

/-! ## The timers (R94, R95, R99) -/

/-- Settles O45. -/
theorem actuatorTimersExpire : Obligations.ActuatorTimersExpire := by
  unfold Obligations.ActuatorTimersExpire
  intro s hd
  refine ⟨fun p c d ha ht hp hm hc hdep hs => ?_, fun c d ha ht hm hc hdep hs hpend hturret horder hcap hmeas => ?_,
    fun a ha ht hreq hheld hh => ?_⟩
  · intro mean
    have hu : dwellDone s = enterUnloading (cycleDwellDone s.act.meanForce (p.dwell * 100)
        (s.act.reached s.acq.depth) { s with act := { s.act with
          dwellMean := some s.act.meanForce, dwellTime := some (p.dwell * 100)
          penetration := s.act.reached s.acq.depth, dwellTimer := false, dwellMs := p.dwell * 100 } }) := by
      rw [dwellDone, hp]
      exact if_pos ⟨ha, ht⟩
    rw [cycleDwellDone, if_pos (by exact hs), hdep, reached_of_contact hm hc] at hu
    show execDwellDone s = _
    rw [execDwellDone, hu, settle_of_not_due (by exact hd)]
    rfl
  · have hfail := failCycle_of_waiting (st := .loadTimeout) (by decide) hs hpend (by simp [Actuator.atRest, ha])
    have hstill : (s.cycle.pendTurret && s.turret.rotating) = s.cycle.pendTurret := by rw [hturret]; rfl
    rw [hdep, reached_of_contact hm hc, dropWork_of_none hcap hmeas horder, hstill] at hfail
    show execLoadTimeout s = _
    rw [execLoadTimeout, loadTimeout, if_pos ⟨ha, ht⟩, hfail, settle_of_not_due (by exact hd)]
    rfl
  · have hstalled : stallExpiry s = recordFault .actuatorStall none
        { s with act := { s.act with state := .stalled, stallTimer := false, requester := none, held := none } } := by
      rw [stallExpiry, if_pos ⟨ha, ht⟩, hreq, hheld]
      rfl
    have hhalt := hstalled.trans (recordFault_halts (by decide) (.inr hh))
    refine ⟨_, _, ?_, rfl, rfl⟩
    show execStallTimerExpiry s = _
    rw [execStallTimerExpiry, hhalt, settle_of_not_due (by exact hd), ← hheld]
    rfl

end Sys2Proof.Machine
end

section
/-! PROOFS. The self-test (R182 to R186): its begin, the judged reference round, and the ends of the frame-store items. -/

namespace Sys2Proof.Machine

section
variable {s : State} {r : TestRun}

/-! ## Items that start (R183 to R185) -/

theorem startItem_of_frames (h : r.item = .pattern ∨ r.item = .address) : startItem r s = { s with
    selftest := { s.selftest with run := some r }, frames := { s.frames with lastId := none, lastHEff := none } } := by
  rcases h with h | h <;> simp only [startItem, h, dropLast]

theorem startItem_of_reference (h : r.item = .force ∨ r.item = .depth) : startItem r s = { s with
    selftest := { s.selftest with run := some r }, acq := { s.acq with refRequested := true } } := by
  rcases h with h | h <;> simp only [startItem, h]

theorem nextStation_ne (m : Station) : m ≠ nextStation m := by
  fin_cases m <;> decide

theorem rotationDir_nextStation (m : Station) : rotationDir m (nextStation m) = .cw := by
  fin_cases m <;> rfl

theorem travelSteps_nextStation (m : Station) : travelSteps m (nextStation m) = 2240 := by
  fin_cases m <;> rfl

theorem startItem_of_turret {m : Station} (h : r.item = .turret) (hm : s.turret.state = .parked m)
    (ha : s.act.state = .retracted) : startItem r s = { s with
      selftest := { s.selftest with run := some r }
      turret := { s.turret with state := .rotating (startRotation m (nextStation m) .selftest), gated := 0 } } := by
  have htarget : s.turret.nextTarget = nextStation m := by rw [Turret.nextTarget, hm]
  have hrequest := rotationRequest_of_away (req := .selftest) (s := { s with selftest := { s.selftest with run := some r } })
    hm (nextStation_ne m) ha
  have hanswer : rotationAnswer s.turret.state (nextStation m) s.act.state = .accepted := by
    rw [hm]; exact rotationAnswer_of_away (nextStation_ne m) ha
  simp only [startItem, h, testRotate, htarget, hrequest, hanswer]

theorem itemPassed_of_last (h : r.todo = []) : itemPassed r s = testPassed { r with done := r.done + 1 } s := by
  unfold itemPassed
  split
  next hcons => rw [h] at hcons; exact nomatch hcons
  next => rfl

theorem itemPassed_of_next {next : TestItem} {rest : List TestItem} (h : r.todo = next :: rest) : itemPassed r s =
    startItem { r with item := next, todo := rest, done := r.done + 1, visits := 6 } s := by
  simp only [itemPassed, h]

/-! ## The end of a test (R36, R182, R186) -/

theorem arbiter_of_quiet {a : Arbiter} {h : HeadState} {w : WaitCond} (hd : a.due = false) (hf : a.testFault = false) :
    { a with head := h, due := false, testFault := false, wait := w } = { a with head := h, wait := w } := by
  cases a
  cases hd
  cases hf
  rfl

/-- A test that passes with no fault recorded and nothing to grant. -/
theorem settle_testPassed (hw : (s.mailbox r.port).state = .working) (hf : s.arb.testFault = false)
    (hd : s.arb.due = false) (hnone : s.eligibleSlots = [] ∨ s.results.free = 0) :
    settle (testPassed r s) = { s with
      ports := answeredPorts r.port (.ok (u8 0 ++ u8 r.done)) s, selftest := { run := none, last := some .passed }
      arb := { s.arb with head := .idle, wait := s.idleWait } } := by
  have hpassed : testPassed r s = idleHead { s with
      ports := answeredPorts r.port (.ok (u8 0 ++ u8 r.done)) s, selftest := { run := none, last := some .passed }
      arb := { s.arb with testFault := false } } := by
    simp only [testPassed, hf, Bool.false_eq_true, if_false]
    exact answer_of_working _ hw
  rw [hpassed, settle_idleHead (by exact hnone)]
  rw [← arbiter_of_quiet hd hf]
  rfl

/-- What a failed item leaves: FAILED, the fault recorded, the head HALTED, the command answered (R186). -/
structure TestFailed (r : TestRun) (code : TestError) (loc : Word32) (expected read : Int) (s t : State) : Prop where
  frame : t = { s with
    ports := t.ports, selftest := { run := none, last := some (.failed r.item code loc expected read) }
    arb := { s.arb with
      head := .halted, wait := .none, holder := none, burst := 0, testFault := false, first := t.arb.first
      last := t.arb.last } }
  last : t.arb.last = some (faultRecordNow .selftestFail none s)
  told : ToldWith r.port (.ok (testPayload r.done (.failed r.item code loc expected read))) s t

theorem recordFault_selftest (hh : s.arb.head = .selftest) : recordFault .selftestFail none s = { s with
    arb := { s.arb with
      first := some (s.arb.first.getD (faultRecordNow .selftestFail none s))
      last := some (faultRecordNow .selftestFail none s), testFault := true } } := by
  rw [recordFault, if_neg (by decide), hh]
  rfl

theorem settle_testFailed {code : TestError} {loc : Word32} {expected read : Int} (hh : s.arb.head = .selftest)
    (hw : (s.mailbox r.port).state = .working) (hd : s.arb.due = false) :
    TestFailed r code loc expected read s (settle (testFailed r code loc expected read s)) := by
  have hne : s.arb.head ≠ .halted := by rw [hh]; decide
  have hhalt := haltHead_of_not_halted (s := { s with
    selftest := { run := none, last := some (.failed r.item code loc expected read) }
    arb := { s.arb with
      first := some (s.arb.first.getD (faultRecordNow .selftestFail none s))
      last := some (faultRecordNow .selftestFail none s), testFault := false } }) hne
  have hfailed : testFailed r code loc expected read s = answer r.port
      (.ok (testPayload r.done (.failed r.item code loc expected read))) (haltHead { s with
        selftest := { run := none, last := some (.failed r.item code loc expected read) }
        arb := { s.arb with
          first := some (s.arb.first.getD (faultRecordNow .selftestFail none s))
          last := some (faultRecordNow .selftestFail none s), testFault := false } }) := by
    rw [testFailed, recordFault_selftest hh]
    rfl
  have hworking : { s.mailbox r.port with state := .working } = s.mailbox r.port := by rw [← hw]
  rw [hhalt] at hfailed
  have hmail := samePost_pulsed r.port s.ports
  rw [SamePost, show forPort s.ports r.port = { s.mailbox r.port with state := .working } from hworking.symm] at hmail
  obtain ⟨hframe, htold, -⟩ := answer_told (s := s) (p := r.port) (u := { s with
      ports := ⟨pulsed s.ports.a, pulsed s.ports.b, pulsed s.ports.c⟩
      selftest := { run := none, last := some (.failed r.item code loc expected read) }
      arb := { s.arb with
        head := .halted, wait := .none, holder := none, burst := 0
        first := some (s.arb.first.getD (faultRecordNow .selftestFail none s))
        last := some (faultRecordNow .selftestFail none s), testFault := false } })
    (r := .ok (testPayload r.done (.failed r.item code loc expected read))) hmail
  rw [show answer r.port _ _ = testFailed r code loc expected read s from hfailed.symm] at hframe htold
  generalize testFailed r code loc expected read s = t at hframe htold
  rw [settle_of_not_due (by rw [hframe]; exact hd)]
  exact ⟨by rw [hframe], by rw [hframe], htold⟩

end

/-- Settles O29. -/
theorem selftestBegins : Obligations.SelftestBegins := by
  unfold Obligations.SelftestBegins
  intro p i rest s hp hitems hd
  have hexec : exec (.selftest p) s = .next (settle (selftestCommand p s)) := by
    show execSelftest p s = _
    rw [execSelftest, if_pos hp]
  have hparams : selftestParams (s.mailbox p).block = some (i :: rest) := hitems
  refine ⟨fun hh => ?_, fun hh hturret => ?_⟩
  · have hrefused : selftestCommand p s = s.setMailbox p (answeredMailbox (s.mailbox p) (refuse .busy)) := by
      simp only [selftestCommand, hparams, if_neg hh]
      rw [answer_of_working _ (by rw [mailbox_takeCommand])]
      cases p <;> rfl
    refine ⟨_, hexec, ?_⟩
    rw [hrefused, settle_of_not_due (by exact hd)]
    exact onlyAnswered_setMailbox p _ s
  · have hbegin : selftestCommand p s = startItem { port := p, item := i, todo := rest, done := 0, visits := 6 }
        { takeCommand p s with arb := { s.arb with head := .selftest, wait := .none, testFault := false } } := by
      simp only [selftestCommand, hparams, if_pos hh]
      rfl
    have hdone : ∀ u, startItem { port := p, item := i, todo := rest, done := 0, visits := 6 }
        { takeCommand p s with arb := { s.arb with head := .selftest, wait := .none, testFault := false } } = u →
        u.arb.due = false → exec (.selftest p) s = .next u := fun u hu hdue => by
      rw [hexec, hbegin, hu, settle_of_not_due hdue]
    have hframes : (i = .pattern ∨ i = .address) → _ := fun h => hdone _ (startItem_of_frames (by exact h)) hd
    have hreference : (i = .force ∨ i = .depth) → _ := fun h => hdone _ (startItem_of_reference (by exact h)) hd
    have hmail := mailbox_setMailbox s p { s.mailbox p with state := .working }
    have hothers := othersKept_setMailbox p { s.mailbox p with state := .working } s
    have hkinds : (i = .pattern ∨ i = .address) ∨ (i = .force ∨ i = .depth) ∨ i = .turret := by
      cases i <;> decide
    rcases hkinds with hi | hi | hi
    · refine ⟨_, hframes hi, rfl, hmail, hothers, rfl, rfl, rfl, rfl, fun _ => ⟨rfl, rfl, rfl⟩, fun h => ?_, fun h => ?_⟩
      · exact absurd h (by rcases hi with rfl | rfl <;> decide)
      · exact absurd h (by rcases hi with rfl | rfl <;> decide)
    · refine ⟨_, hreference hi, rfl, hmail, hothers, rfl, rfl, rfl, rfl, fun h => ?_, fun _ => ⟨rfl, rfl, rfl⟩, fun h => ?_⟩
      · exact absurd h (by rcases hi with rfl | rfl <;> decide)
      · exact absurd h (by rcases hi with rfl | rfl <;> decide)
    · obtain ⟨m, hm, ha⟩ := hturret hi
      refine ⟨_, hdone _ (startItem_of_turret (m := m) (by exact hi) hm ha) hd, rfl, hmail, hothers, rfl, rfl, rfl, rfl,
        fun h => ?_, fun h => ?_, fun _ => ⟨rfl, rfl, fun m' hm' => ?_⟩⟩
      · exact absurd h (by rw [hi]; decide)
      · exact absurd h (by rw [hi]; decide)
      · obtain rfl : m = m' := TurretState.parked.inj (hm.symm.trans hm')
        exact ⟨startRotation m (nextStation m) .selftest, rfl, rfl, rfl, (rotationDir_nextStation m), rfl,
          congrArg RotPhase.travel (travelSteps_nextStation m)⟩

/-! ## Reference rounds (R87, R184) -/

theorem referenceRoundEnd_of_fits {s : State} {r : TestRun} {codes : List Word16} {depth : Word16} {code : Int}
    (hs : s.acq.refSwitched = true) (hn : codes.length = s.acq.round.n) (hne : codes ≠ []) (hr : s.selftest.run = some r)
    (hi : (r.item = .force ∧ code = rawMean codes) ∨ (r.item = .depth ∧ code = depth.toInt)) :
    referenceRoundEnd codes depth s = if referenceOk r.item code then itemPassed r (nextRound s)
      else testFailed r .referenceRange 0 (referenceCode r.item) code (nextRound s) := by
  have hfits : s.acq.fits codes = true := by
    rw [Acquisition.fits, decide_eq_true hn, decide_eq_true (mt List.length_eq_zero_iff.mp hne)]
    rfl
  have hjudge : referenceRoundEnd codes depth s = judgeReference (rawMean codes) depth.toInt (nextRound s) := by
    rw [referenceRoundEnd, hs, hfits]
    rfl
  have hrun : (nextRound s).selftest.run = some r := hr
  rw [hjudge, judgeReference, hrun]
  have hne' : TestItem.depth ≠ .force := by decide
  rcases hi with ⟨hi, rfl⟩ | ⟨hi, rfl⟩
  · simp only [hi, true_or, if_true]
  · simp only [hi, or_true, if_true, if_neg hne']

/-- Settles O46. -/
theorem referenceRoundIsJudged : Obligations.ReferenceRoundIsJudged := by
  unfold Obligations.ReferenceRoundIsJudged
  intro codes depth r expected code s hs hn hne hr htodo hi hh hf hw hd hnone
  have hexpected : expected = referenceCode r.item := by
    rcases hi with ⟨hi, h, -⟩ | ⟨hi, h, -⟩ <;> rw [h, hi] <;> rfl
  have hround := referenceRoundEnd_of_fits (depth := depth) hs hn hne hr (hi.imp (fun h => ⟨h.1, h.2.2⟩) fun h => ⟨h.1, h.2.2⟩)
  rw [referenceOk, ← hexpected] at hround
  by_cases hok : (code - expected).natAbs ≤ 256
  · rw [if_pos (by exact decide_eq_true hok), itemPassed_of_last htodo] at hround
    have hsettled := settle_testPassed (s := nextRound s) (r := { r with done := r.done + 1 }) hw hf hd
      (hnone.imp_right (·.resolve_right (by omega)))
    refine ⟨_, congrArg Host.Outcome.next ((congrArg settle hround).trans hsettled), rfl, rfl, rfl,
      fun _ => ⟨rfl, rfl, mailbox_setMailbox s r.port _, othersKept_setMailbox r.port _ s⟩, fun h => absurd h (by omega)⟩
  · rw [if_neg (by simpa using hok)] at hround
    have hsettled := settle_testFailed (s := nextRound s) (r := r) (code := .referenceRange) (loc := 0)
      (expected := expected) (read := code) hh hw hd
    rw [← hround] at hsettled
    refine ⟨settle (referenceRoundEnd codes depth s), rfl, ?_, ?_, ?_, fun h => absurd h hok, fun _ => ⟨?_, ?_, ?_, ?_⟩⟩
    · rw [hsettled.frame]; rfl
    · rw [hsettled.frame]; rfl
    · rw [hsettled.frame]
    · rw [hsettled.frame]
    · rw [hsettled.frame]
    · rw [hsettled.last]; rfl
    · exact hsettled.told

/-! ## Frame-store items (R183) -/

section
variable {s : State} {r : TestRun} {b : BadByte}

theorem badAddr_eq : badAddr b = 921600 * b.buffer.val + 960 * b.row.val + b.col.val := rfl

theorem read_framesPassed {item : TestItem} {a : Nat} (hi : item = .pattern ∨ item = .address) (ha : a < 1843200) :
    Memory.read (framesPassed item) a = if item = .pattern then 255 else 0 := by
  rcases hi with rfl | rfl
  · exact read_fillFrames _ ha
  · rfl

/-- What a frame-store item's failing step writes (R183). -/
def writtenAt (item : TestItem) (b : BadByte) (a : Nat) : Byte :=
  if item = .pattern then patternFill b.fill else addressValueAt a

theorem read_framesFailed {item : TestItem} {a : Nat} (hi : item = .pattern ∨ item = .address) (ha : a < 1843200) :
    Memory.read (framesFailed item b) a = if a = badAddr b then b.read else writtenAt item b a := by
  have hwrite : ∀ m : Memory, Memory.read (Memory.write m (badAddr b) [b.read]) a =
      if a = badAddr b then b.read else Memory.read m a := fun m => by
    rw [Memory.read_write, List.length_singleton]
    by_cases h : a = badAddr b
    · rw [if_pos (by omega), if_pos h, h, Nat.sub_self]; rfl
    · rw [if_neg (by omega), if_neg h]
  rcases hi with rfl | rfl
  · exact (hwrite _).trans (by rw [read_fillFrames _ ha]; rfl)
  · exact (hwrite _).trans (by rw [read_fillFrames _ ha]; rfl)

theorem badExpected_eq {item : TestItem} (hi : item = .pattern ∨ item = .address) :
    badExpected b item = writtenAt item b (badAddr b) := by
  rcases hi with rfl | rfl
  · rfl
  · have hbuffer := b.buffer.isLt
    have hrow := b.row.isLt
    have hcol := b.col.isLt
    have hdiv : badAddr b / 921600 = b.buffer.val := by rw [badAddr_eq]; omega
    have hmod : badAddr b % 921600 / 960 = b.row.val := by rw [badAddr_eq]; omega
    have hlow : badAddr b % 960 = b.col.val := by rw [badAddr_eq]; omega
    show addressValue _ _ _ = addressValue (badAddr b / 921600) (badAddr b % 921600 / 960) (badAddr b % 960)
    rw [hdiv, hmod, hlow]

theorem exec_framestoreItemEnd {bad : Option BadByte} (hr : s.selftest.run = some r)
    (hi : r.item = .pattern ∨ r.item = .address) : exec (.framestoreItemEnd bad) s = .next (settle (frameItemEnd bad r s)) := by
  show execFramestoreItemEnd bad s = _
  simp only [execFramestoreItemEnd, hr, if_pos hi]

/-- A frame-store item that passes: what every byte holds. -/
theorem frameItemEnd_none (hi : r.item = .pattern ∨ r.item = .address) : ∃ m : Memory,
    frameItemEnd none r s = itemPassed r { s with frames := { s.frames with mem := m } } ∧
      ∀ a, a < 1843200 → Memory.read m a = if r.item = .pattern then 255 else 0 :=
  ⟨framesPassed r.item, rfl, fun _ ha => read_framesPassed hi ha⟩

/-- A frame-store item that fails at a byte: what every byte holds. -/
theorem frameItemEnd_some (hi : r.item = .pattern ∨ r.item = .address)
    (hbad : b.read ≠ writtenAt r.item b (badAddr b)) : ∃ m : Memory,
    frameItemEnd (some b) r s = testFailed r (if r.item = .pattern then .patternMismatch else .addressAlias)
      (Config.locationWord b.buffer.val b.row.val b.col.val) ((writtenAt r.item b (badAddr b)).toNat : Int) b.read.toNat
      { s with frames := { s.frames with mem := m } } ∧
      ∀ a, a < 1843200 → Memory.read m a = if a = badAddr b then b.read else writtenAt r.item b a := by
  refine ⟨framesFailed r.item b, ?_, fun _ ha => read_framesFailed hi ha⟩
  have hcode : (if r.item = .address then TestError.addressAlias else .patternMismatch) =
      if r.item = .pattern then .patternMismatch else .addressAlias := by
    rcases hi with h | h <;> rw [h] <;> rfl
  rw [← badExpected_eq hi] at hbad ⊢
  rw [← hcode, frameItemEnd, Option.filter_some, if_pos (decide_eq_true hbad)]
  rfl

/-- The answer of a failed frame-store item (R182, R193). -/
theorem testPayload_frames {item : TestItem} {n : Nat} {loc : Word32} {expected read : Int}
    (hi : item = .pattern ∨ item = .address) :
    testPayload n (.failed item (if item = .pattern then .patternMismatch else .addressAlias) loc expected read) =
      u8 1 ++ u8 1 ++ u8 (if item = .pattern then 1 else 2) ++ u8 (if item = .pattern then 9 else 10) ++ u32 loc.toNat ++
        i32 expected ++ i32 read := by
  rcases hi with rfl | rfl <;> rfl

end

/-- Settles O47. -/
theorem frameStoreItemEnds : Obligations.FrameStoreItemEnds := by
  unfold Obligations.FrameStoreItemEnds
  intro r s hr hi hh hf hw hd
  refine ⟨fun htodo hnone => ?_, fun next rest htodo hnext => ?_, fun b => ?_⟩
  · obtain ⟨m, hend, hread⟩ := frameItemEnd_none (s := s) hi
    rw [itemPassed_of_last htodo] at hend
    have hsettled := settle_testPassed (s := { s with frames := { s.frames with mem := m } })
      (r := { r with done := r.done + 1 }) hw hf hd hnone
    exact ⟨_, (exec_framestoreItemEnd hr hi).trans (congrArg Host.Outcome.next ((congrArg settle hend).trans hsettled)),
      rfl, rfl, hread, rfl, rfl, rfl, mailbox_setMailbox s r.port _, othersKept_setMailbox r.port _ s⟩
  · obtain ⟨m, hend, hread⟩ := frameItemEnd_none (s := s) hi
    rw [itemPassed_of_next htodo] at hend
    have hdone : ∀ u, startItem { r with item := next, todo := rest, done := r.done + 1, visits := 6 }
        { s with frames := { s.frames with mem := m } } = u → u.arb.due = false →
        exec (.framestoreItemEnd none) s = .next u := fun u hu hdue => by
      rw [exec_framestoreItemEnd hr hi, hend]
      exact congrArg Host.Outcome.next ((congrArg settle hu).trans (settle_of_not_due hdue))
    have hkinds : (next = .pattern ∨ next = .address) ∨ (next = .force ∨ next = .depth) := by
      cases next with
      | turret => exact absurd rfl hnext
      | pattern => decide
      | address => decide
      | force => decide
      | depth => decide
    rcases hkinds with hk | hk
    · refine ⟨_, hdone _ (startItem_of_frames (by exact hk)) hd, rfl, hread, fun _ => ⟨rfl, rfl⟩, fun h => ?_⟩
      exact absurd h (by rcases hk with rfl | rfl <;> decide)
    · refine ⟨_, hdone _ (startItem_of_reference (by exact hk)) hd, rfl, hread, fun h => ?_, fun _ => ⟨rfl, rfl⟩⟩
      exact absurd h (by rcases hk with rfl | rfl <;> decide)
  · intro fill written place w hbad
    obtain ⟨m, hend, hread⟩ := frameItemEnd_some (s := s) hi hbad
    have hsettled := settle_testFailed (s := { s with frames := { s.frames with mem := m } }) (r := r)
      (code := if r.item = .pattern then .patternMismatch else .addressAlias) (loc := w)
      (expected := ((writtenAt r.item b (badAddr b)).toNat : Int)) (read := b.read.toNat) hh hw hd
    refine ⟨_, (exec_framestoreItemEnd hr hi).trans (congrArg Host.Outcome.next (congrArg settle hend)), ?_⟩
    generalize settle (testFailed r (if r.item = .pattern then .patternMismatch else .addressAlias) w
      ((writtenAt r.item b (badAddr b)).toNat : Int) b.read.toNat { s with frames := { s.frames with mem := m } }) = t
      at hsettled
    have hframe := hsettled.frame
    refine ⟨?_, ?_, ?_, ?_, ?_, ?_, ?_, ?_⟩
    · rw [hframe]
    · rw [hframe]
    · rw [hframe]; exact hread
    · rw [hframe]
    · rw [hframe]; rfl
    · rw [hframe, ← hf]
    · rw [hsettled.last]; rfl
    · have htold := hsettled.told
      rw [testPayload_frames hi] at htold
      exact htold

end Sys2Proof.Machine
end

section
/-! PROOFS. Capture and measurement (R102 to R145): the items of the link, the end of a frame, failed frames, and the record
of a successful measurement. -/

namespace Sys2Proof.Machine

/-! ## The items of the link (R105 to R111) -/

section
variable {s : State} {q : CapRequest} {roi : Roi}

theorem takePixel_of_receiving (hs : s.cap.state = .receiving) (hq : s.cap.request = some q) (v : Nat) : takePixel v s =
    if pixelMax q.camera < v ∧ (¬ s.cap.lineCount = 1024 ∨ Config.rangeBeforeLong = true) then corrupt .pixelRange s
    else if s.cap.lineCount = 1024 then corrupt .longFrame s
    else { s with cap := { s.cap with line := s.cap.line ++ [v] } } := by
  simp only [takePixel, hs, hq]
  rfl

theorem takeLineSum_of_receiving (hs : s.cap.state = .receiving) (hq : s.cap.request = some q) (hroi : s.cap.roi = some roi)
    (w : Word16) : takeLineSum w s =
    if s.cap.line.length ≠ 1280 then corrupt .lineLength s
    else if s.cap.line.sum % 65536 ≠ w.toNat then corrupt .sumMismatch s
    else { storeLine q roi s with
      cap := { (storeLine q roi s).cap with lineCount := s.cap.lineCount + 1, line := [] } } := by
  simp only [takeLineSum, hs, hq, hroi]
  rfl

/-- The byte that a complete line puts at a place of its stored row (R107, R109, R111). -/
def storedByte (q : CapRequest) (roi : Roi) (exposure : Option Exposure) (line : List Nat) (old : Byte) (i : Nat) : Byte :=
  let px := reducePixel q.camera q.gain (line.getD (roi.col0 + i) 0)
  if exposure = some .b ∧ old.toNat < px.toNat then old else px

theorem storedRow_length {exposure : Option Exposure} {line : List Nat} {old : List Byte}
    (hline : roi.col0 + 2 * roi.hEff ≤ line.length) (hold : old.length = 2 * roi.hEff) :
    (storedRow q roi exposure line old).length = 2 * roi.hEff := by
  simp only [storedRow]
  split <;> simp only [List.length_zipWith, List.length_map, List.length_take, List.length_drop] <;> omega

theorem minByte_eq (a b : Byte) : minByte a b = if b.toNat < a.toNat then b else a := by
  rw [minByte]
  split
  · rw [if_neg (by omega)]
  · rw [if_pos (by omega)]

theorem storedRow_getD {exposure : Option Exposure} {line : List Nat} {old : List Byte} {i : Nat} (hi : i < 2 * roi.hEff)
    (hline : roi.col0 + 2 * roi.hEff ≤ line.length) (hold : old.length = 2 * roi.hEff) :
    (storedRow q roi exposure line old).getD i 0 = storedByte q roi exposure line (old.getD i 0) i := by
  have hlen : (((line.drop roi.col0).take (2 * roi.hEff)).map (reducePixel q.camera q.gain)).length = 2 * roi.hEff := by
    rw [List.length_map, List.length_take, List.length_drop]; omega
  have hpixel : (((line.drop roi.col0).take (2 * roi.hEff)).map (reducePixel q.camera q.gain)).getD i 0 =
      reducePixel q.camera q.gain (line.getD (roi.col0 + i) 0) := by
    rw [List.getD_eq_getElem _ _ (by omega), List.getElem_map, List.getElem_take, List.getElem_drop,
      List.getD_eq_getElem _ _ (by omega)]
  by_cases hb : exposure = some .b
  · have hrow : storedRow q roi exposure line old =
        List.zipWith minByte (((line.drop roi.col0).take (2 * roi.hEff)).map (reducePixel q.camera q.gain)) old := if_pos hb
    rw [hrow, List.getD_eq_getElem _ _ (by rw [List.length_zipWith]; omega), List.getElem_zipWith,
      ← List.getD_eq_getElem _ 0, hpixel, ← List.getD_eq_getElem old 0, minByte_eq, storedByte]
    simp only [hb, true_and]
  · have hrow : storedRow q roi exposure line old =
        ((line.drop roi.col0).take (2 * roi.hEff)).map (reducePixel q.camera q.gain) := if_neg hb
    rw [hrow, hpixel, storedByte]
    simp only [hb, false_and, if_false]

/-- A complete line changes the frame store alone: inside the ROI its row of WORK (R109). -/
theorem storeLine_spec (hline : roi.col0 + 2 * roi.hEff ≤ s.cap.line.length) : ∃ m : Memory,
    storeLine q roi s = { s with frames := { s.frames with mem := m } } ∧ ∀ a, Memory.read m a =
      let first := frameAddr s.frames.work.val (s.cap.lineCount - roi.row0) 0
      if roi.row0 ≤ s.cap.lineCount ∧ s.cap.lineCount < roi.row0 + 2 * roi.hEff ∧ first ≤ a ∧ a < first + 2 * roi.hEff then
        storedByte q roi s.cap.exposure s.cap.line (Memory.read s.frames.mem a) (a - first)
      else Memory.read s.frames.mem a := by
  by_cases hrow : roi.row0 ≤ s.cap.lineCount ∧ s.cap.lineCount < roi.row0 + 2 * roi.hEff
  · obtain ⟨hlo, hhi⟩ := hrow
    refine ⟨_, if_pos ⟨hlo, hhi⟩, fun a => ?_⟩
    generalize frameAddr s.frames.work.val (s.cap.lineCount - roi.row0) 0 = first
    dsimp only
    have hold : (Memory.slice s.frames.mem first (2 * roi.hEff)).length = 2 * roi.hEff := by
      rw [Memory.slice_eq, List.length_map, List.length_range]
    rw [Memory.read_write, storedRow_length hline hold]
    by_cases ha : first ≤ a ∧ a < first + 2 * roi.hEff
    · obtain ⟨i, rfl⟩ := Nat.exists_eq_add_of_le ha.1
      have hi : i < 2 * roi.hEff := by omega
      have hbyte : (Memory.slice s.frames.mem first (2 * roi.hEff)).getD i 0 = Memory.read s.frames.mem (first + i) := by
        rw [List.getD_eq_getElem _ _ (by omega)]
        simp only [Memory.slice_eq, List.getElem_map, List.getElem_range]
      rw [if_pos ha, if_pos ⟨hlo, hhi, ha⟩, Nat.add_sub_cancel_left, storedRow_getD hi hline hold, hbyte]
    · rw [if_neg ha, if_neg fun h => ha h.2.2]
  · refine ⟨s.frames.mem, if_neg hrow, fun a => ?_⟩
    rw [if_neg fun h => hrow ⟨h.1, h.2.1⟩]

end

/-- Settles O48. -/
theorem linkItemsAreTaken : Obligations.LinkItemsAreTaken := by
  unfold Obligations.LinkItemsAreTaken
  intro q roi s
  refine ⟨fun hs => congrArg Host.Outcome.next (if_pos hs), fun hs hq hroi => ?_⟩
  have hpixel := takePixel_of_receiving hs hq
  have hsum := takeLineSum_of_receiving hs hq hroi
  refine ⟨fun v hn => ?_, fun v hn => ?_, fun w hlen => ?_, fun w hlen hw => ?_, fun w hlen hw hcols => ?_⟩
  · show Host.Outcome.next (takePixel v s) = _
    rw [hpixel, if_neg hn]
    by_cases hv : pixelMax q.camera < v
    · rw [if_pos ⟨hv, .inl hn⟩]
      exact congrArg (fun c => Host.Outcome.next { s with cap := c }) (if_pos hv).symm
    · rw [if_neg fun h => hv h.1]
      exact congrArg (fun c => Host.Outcome.next { s with cap := c }) (if_neg hv).symm
  · have hkind : ∀ k, takePixel v s = corrupt k s → exec (.pixelValue v) s = .next { s with
        cap := { s.cap with state := .discarding, line := [], lastDetail := some (k, 1024) } } := fun k hk => by
      show Host.Outcome.next (takePixel v s) = _
      rw [hk, ← hn]
      rfl
    by_cases hv : pixelMax q.camera < v ∧ (¬ s.cap.lineCount = 1024 ∨ Config.rangeBeforeLong = true)
    · exact ⟨_, hkind .pixelRange ((hpixel v).trans (if_pos hv)), .inr ⟨rfl, hv.1⟩⟩
    · exact ⟨_, hkind .longFrame ((hpixel v).trans ((if_neg hv).trans (if_pos hn))), .inl rfl⟩
  · exact congrArg Host.Outcome.next ((hsum w).trans (if_pos hlen))
  · exact congrArg Host.Outcome.next ((hsum w).trans ((if_neg (not_not.mpr hlen)).trans (if_pos hw)))
  · obtain ⟨m, hstore, hread⟩ := storeLine_spec (q := q) (s := s) (roi := roi) (by rw [hlen]; exact hcols)
    have htaken := (hsum w).trans ((if_neg (not_not.mpr hlen)).trans (if_neg (not_not.mpr hw)))
    rw [hstore] at htaken
    exact ⟨_, congrArg Host.Outcome.next htaken, rfl, rfl, hread⟩

/-! ## The end of a frame (R106, R111, R114) -/

section
variable {s : State} {q : CapRequest} {roi : Roi}

theorem takeMarker_of_whole (hs : s.cap.state = .receiving) (hroi : s.cap.roi = some roi)
    (hrows : roi.row0 + 2 * roi.hEff ≤ s.cap.lineCount) : takeMarker s =
      if s.cap.exposure = some .a then (startExposure .b s, none) else completeCapture roi s := by
  have hwhole : isShort roi s.cap.lineCount = false := decide_eq_false (by omega)
  simp only [takeMarker, hs, hroi, endFrame, hwhole, Bool.false_eq_true, if_false]

theorem objectiveOf_eq {n : Station} {o : Objective} (h : s.station n = .objective o) : s.objectiveOf n = o := by
  simp only [State.objectiveOf, h]

/-- The image's measurement begins (R52, R120). -/
theorem enterMeasuring_of_last {g : Granted} {j : Job} {n : Station} {id : Word16} {hEff : Nat}
    (hj : s.cycleJob = some (g, j)) (hn : s.cycle.objective = some n) (hrun : s.meas.run = none)
    (hlast : s.frames.lastId = some id) : enterMeasuring id hEff s = { s with
      cycle := { s.cycle with state := .measuring }
      meas := { s.meas with run := some {
        req := measRequestOf id hEff j.params.threshold n s, work := firstWork j.params.threshold } } } := by
  have hrequest : requestMeasure (measRequestOf id hEff j.params.threshold n s)
      { s with cycle := { s.cycle with state := .measuring } } = ({ s with
        cycle := { s.cycle with state := .measuring }
        meas := { s.meas with run := some {
          req := measRequestOf id hEff j.params.threshold n s, work := firstWork j.params.threshold } } }, none) := by
    simp only [requestMeasure]
    rw [abandonMeasure_of_none (s := { s with cycle := { s.cycle with state := .measuring } }) hrun]
    exact if_pos hlast
  have henter : enterMeasuring id hEff s =
      cycleMeasured (requestMeasure (measRequestOf id hEff j.params.threshold n s)
        { s with cycle := { s.cycle with state := .measuring } }).2
        (requestMeasure (measRequestOf id hEff j.params.threshold n s)
          { s with cycle := { s.cycle with state := .measuring } }).1 := by
    rw [enterMeasuring, hj, hn]
    rfl
  rw [henter, hrequest]
  rfl

end

/-- Settles O49. -/
theorem frameEndCompletesTheCapture : Obligations.FrameEndCompletesTheCapture := by
  unfold Obligations.FrameEndCompletesTheCapture
  intro q roi g j n o s hs hq hroi hrows hd
  have hmarker := takeMarker_of_whole hs hroi hrows
  have hexec : exec .frameEndMarker s = .next (captured (takeMarker s)) := rfl
  refine ⟨fun ha => ?_, fun ha hj hn ho hrun => ?_⟩
  · rw [hexec, hmarker, if_pos ha]
    exact congrArg Host.Outcome.next (settle_of_not_due hd)
  · have hmeasure := enterMeasuring_of_last (g := g) (j := j) (n := n) (id := s.cap.imageCounter + 1) (hEff := roi.hEff)
      (s := { s with
        cap := { s.cap with
          state := .idle, request := none, roi := none, exposure := none, lit := [], line := [], frameTimer := false
          imageCounter := s.cap.imageCounter + 1 }
        frames := { s.frames with
          work := s.frames.last, lastId := some (s.cap.imageCounter + 1), lastHEff := some roi.hEff }
        cycle := { s.cycle with
          known := { s.cycle.known with
            imageId := some (s.cap.imageCounter + 1), hEff := some roi.hEff, roiReduced := some roi.reduced } } })
      hj hn hrun rfl
    rw [measRequestOf, objectiveOf_eq (o := o) (by exact ho)] at hmeasure
    rw [hexec, hmarker, if_neg ha]
    refine congrArg Host.Outcome.next ((congrArg settle hmeasure).trans (settle_of_not_due (by exact hd)))

/-! ## Failed frames (R112, R113) -/

section
variable {s : State} {q : CapRequest} {roi : Roi} {k : FailKind} {n : Nat}

/-- The capture's first exposure (R110, R111). -/
def startedCapture (q : CapRequest) (c : Capture) : Capture := { c with
  state := .exposing, exposureCount := c.exposureCount + 1, lineCount := 0, line := [], frameTimer := true
  exposure := some (firstExposure q.illum), lit := quadrantsOf (firstExposure q.illum) }

theorem startedCapture_eq (q : CapRequest) (c : Capture) : startedCapture q c = { c with
    state := .exposing, exposureCount := c.exposureCount + 1, lineCount := 0, line := [], frameTimer := true
    exposure := some (match q.illum with | .single => .single | .paired => .a)
    lit := match q.illum with | .single => [1, 2, 3, 4] | .paired => [1, 3] } := by
  rw [startedCapture]
  cases q.illum <;> rfl

theorem startFirst_of_request (h : s.cap.request = some q) : startFirst s = { s with cap := startedCapture q s.cap } := by
  simp only [startFirst, h]
  rfl

theorem takeMarker_of_short (hs : s.cap.state = .receiving) (hroi : s.cap.roi = some roi)
    (hrows : s.cap.lineCount < roi.row0 + 2 * roi.hEff) :
    takeMarker s = actOnFailure .shortFrame (noteFailure .shortFrame s) := by
  have hshort : isShort roi s.cap.lineCount = true := decide_eq_true (by omega)
  simp only [takeMarker, hs, hroi, endFrame, hshort, if_true]

theorem takeMarker_of_discarding (hs : s.cap.state = .discarding) : takeMarker s = discardEnd s := by
  simp only [takeMarker, hs]

theorem takeFrameTimeout_of_receiving (hs : s.cap.state = .receiving) (ht : s.cap.frameTimer = true) :
    takeFrameTimeout s = actOnFailure .frameTimeout (noteFailure .frameTimeout s) := by
  simp only [takeFrameTimeout, hs, ht, if_true]

theorem takeFrameTimeout_of_discarding (hs : s.cap.state = .discarding) (ht : s.cap.frameTimer = true) :
    takeFrameTimeout s = discardEnd s := by
  simp only [takeFrameTimeout, hs, ht, if_true]

/-- The events at which a frame fails, with the kind noted (R106, R112). -/
theorem exec_failedFrame {c : Instr} (hroi : s.cap.roi = some roi)
    (hc : (s.cap.state = .receiving ∧ n = s.cap.lineCount ∧
        ((c = Instr.frameEndMarker ∧ k = FailKind.shortFrame ∧ n < roi.row0 + 2 * roi.hEff) ∨
          (c = .frameTimeout ∧ k = .frameTimeout ∧ s.cap.frameTimer = true))) ∨
      (s.cap.state = .discarding ∧ s.cap.lastDetail = some (k, n) ∧
        (c = .frameEndMarker ∨ (c = .frameTimeout ∧ s.cap.frameTimer = true)))) :
    exec c s = .next (captured (actOnFailure k { s with cap := { s.cap with lastDetail := some (k, n) } })) := by
  have hdone : ∀ {out : State × Option CapReport},
      out = actOnFailure k { s with cap := { s.cap with lastDetail := some (k, n) } } → exec c s = .next (captured out) →
      exec c s = .next (captured (actOnFailure k { s with cap := { s.cap with lastDetail := some (k, n) } })) :=
    fun h he => by rw [← h]; exact he
  rcases hc with ⟨hs, rfl, ⟨rfl, rfl, hrows⟩ | ⟨rfl, rfl, htimer⟩⟩ | ⟨hs, hdetail, hc⟩
  · exact hdone (takeMarker_of_short hs hroi hrows) rfl
  · exact hdone (takeFrameTimeout_of_receiving hs htimer) rfl
  · have hsame : ({ s with cap := { s.cap with lastDetail := some (k, n) } } : State) = s := by rw [← hdetail]
    have hend : discardEnd s = actOnFailure k { s with cap := { s.cap with lastDetail := some (k, n) } } := by
      rw [hsame]; simp only [discardEnd, hdetail]
    rcases hc with rfl | ⟨rfl, htimer⟩
    · exact hdone ((takeMarker_of_discarding hs).trans hend) rfl
    · exact hdone ((takeFrameTimeout_of_discarding hs htimer).trans hend) rfl

theorem actOnFailure_first (hr : s.cap.retryCount = 0) : actOnFailure k s =
    (startFirst { s with cap := { s.cap with retryCount := 1 } }, some .restart) := if_pos hr

theorem actOnFailure_timeout (hr : s.cap.retryCount = 1) (hh : s.arb.head = .busy) : actOnFailure .frameTimeout s =
    ({ captureIdle s with
      arb := { s.arb with
        first := some (s.arb.first.getD (faultRecordNow .cameraTimeout none s))
        last := some (faultRecordNow .cameraTimeout none s) }
      cycle := { s.cycle with haltOnEnd := true } }, some (.failed .cameraTimeout)) := by
  have hfault := recordFault_busy (code := .cameraTimeout) (sub := none) (s := captureIdle s) (by decide) hh
  have hfinal : actOnFailure .frameTimeout s =
      (recordFault .cameraTimeout none (captureIdle s), some (.failed .cameraTimeout)) := if_neg (by rw [hr]; decide)
  rw [hfinal, hfault]
  rfl

theorem actOnFailure_corrupt (hr : s.cap.retryCount = 1) (hk : k ≠ .frameTimeout) : actOnFailure k s =
    (captureIdle s, some (.failed .imageCorrupt)) := by
  rw [actOnFailure, if_neg (by rw [hr]; decide)]
  simp only [finalReason, if_neg hk]

/-- A point cleared at once with no capture, measurement or order to drop. -/
theorem ClearedAtOnce.frame_of_none {g : Granted} {j : Job} {st : Status} {t : State} (h : ClearedAtOnce st g j s t)
    (hpo : s.pendingOrder = none) (hcap : s.cap.state = .idle) (hrun : s.meas.run = none) : t = { s with
      ports := t.ports, cycle := t.cycle, points := t.points, jobs := t.jobs, results := t.results, map := t.map
      verif := t.verif
      arb := if s.cycle.haltOnEnd then haltedArb s.arb else { s.arb with head := .idle, wait := s.idleWait } } := by
  obtain ⟨⟨-, hstage, hcapture, hmeas, -⟩, -, -, hframe⟩ := h
  rw [hstage hpo, hcapture, if_pos hcap, hmeas hrun] at hframe
  exact hframe

end

/-- Settles O50. -/
theorem failedFramesRestart : Obligations.FailedFramesRestart := by
  unfold Obligations.FailedFramesRestart
  intro q roi s hd started
  refine ⟨fun c k n hq hroi hc => ⟨fun hr => ?_, fun g j hr hcyc hh hhalt hj hp hact hturret hpo hrun hnone => ?_⟩,
    fun hs hq c hc => ?_, fun hs => ?_⟩
  · rw [exec_failedFrame hroi hc, actOnFailure_first (by exact hr),
      startFirst_of_request (s := { s with cap := { s.cap with lastDetail := some (k, n), retryCount := 1 } }) hq, captured,
      settle_of_not_due (by exact hd)]
    exact congrArg (fun x => Host.Outcome.next { s with cap := x, cycle := { s.cycle with retryUsed := true } })
      (startedCapture_eq q _)
  · intro fault
    have hpend : (s.cycle.pendTurret && s.turret.rotating) = false := by rw [hturret]; rfl
    have hrest : (s.cycle.pendActuator && !s.act.atRest) = false := by rw [hact, Bool.not_true, Bool.and_false]
    have hfault : faultRecordNow .cameraTimeout none s = fault := by rw [faultRecordNow, hh]
    have hne : s.arb.head ≠ .halted := by rw [hh]; decide
    have hexec := exec_failedFrame hroi hc
    by_cases hk : k = .frameTimeout
    · subst hk
      rw [actOnFailure_timeout (by exact hr) (by exact hh)] at hexec
      have hcleared := settle_enterClearing (g := g) (j := j) (st := .cameraTimeout) (s := { s with
        cap := { s.cap with
          state := .idle, request := none, roi := none, exposure := none, lit := [], line := [], frameTimer := false
          lastDetail := some (.frameTimeout, n) }
        arb := { s.arb with first := some (s.arb.first.getD fault), last := some fault }
        cycle := { s.cycle with haltOnEnd := true, outcome := some .cameraTimeout } })
        hj rfl (by decide) hpend hrest hp hne hd (fun h => nomatch h)
      refine ⟨_, hexec.trans (congrArg (fun f => Host.Outcome.next (settle (enterClearing { s with
        cap := { s.cap with
          state := .idle, request := none, roi := none, exposure := none, lit := [], line := [], frameTimer := false
          lastDetail := some (.frameTimeout, n) }
        arb := { s.arb with first := some (s.arb.first.getD f), last := some f }
        cycle := { s.cycle with haltOnEnd := true, outcome := some .cameraTimeout } }))) hfault),
        hcleared.frame_of_none hpo rfl hrun, hcleared.2.1⟩
    · rw [actOnFailure_corrupt (by exact hr) hk] at hexec
      have hcleared := settle_enterClearing (g := g) (j := j) (st := .imageCorrupt) (s := { s with
        cap := { s.cap with
          state := .idle, request := none, roi := none, exposure := none, lit := [], line := [], frameTimer := false
          lastDetail := some (k, n) }
        cycle := { s.cycle with outcome := some .imageCorrupt } })
        hj rfl (by decide) hpend hrest hp hne hd (fun _ => hnone)
      have hframe := hcleared.frame_of_none hpo rfl hrun
      rw [if_neg (by show ¬ s.cycle.haltOnEnd = true; rw [hhalt]; decide)] at hframe
      rw [if_neg hk, if_neg hk]
      exact ⟨_, hexec, hframe, hcleared.2.1⟩
  · have htail : takeTailWait s = startFirst (clearTail s) := if_pos hs
    have hmarker : takeMarker s = (startFirst (clearTail s), none) := by simp only [takeMarker, hs]
    have hfirst := startFirst_of_request (s := clearTail s) hq
    rw [startedCapture_eq] at hfirst
    rcases hc with rfl | rfl
    · exact congrArg Host.Outcome.next (htail.trans hfirst)
    · show Host.Outcome.next (captured (takeMarker s)) = _
      rw [hmarker, hfirst]
      exact congrArg Host.Outcome.next (settle_of_not_due hd)
  · have hmarker : takeMarker s = (clearTail s, none) := by simp only [takeMarker, hs]
    show Host.Outcome.next (captured (takeMarker s)) = _
    rw [hmarker]
    exact congrArg Host.Outcome.next (settle_of_not_due hd)

/-! ## A successful measurement (R133, R139 to R145, R167) -/

section
variable {p : Profile} {f d dx dy : Int}

theorem diagonalUsed_eq (p : Profile) (dx dy : Int) : diagonalUsed p dx dy = match p with
    | .sp => (dx + dy + 1) / 2
    | .rb => dx := by
  cases p with
  | sp =>
    show (2 * (dx + dy) + 2) / 4 = (dx + dy + 1) / 2
    omega
  | rb => rfl

theorem rawHardness_eq (p : Profile) (f d : Int) : rawHardness p f d =
    (2 * (f * (match p with | .sp => 18909 | .rb => 145093) * 1000000) + d * d) / (2 * (d * d)) := by
  cases p <;> rfl

theorem hardnessOf_of_force {k : Known} (hf : k.force = some f) (hpos : 0 < f) :
    hardnessOf k p d = some (min (rawHardness p f d) 400000).toNat := by
  rw [hardnessOf, hf, Option.bind_some, hardnessValue, if_neg (by omega)]
  rfl

theorem isOver_of_pos (hpos : 0 < f) : isOver p f d = decide (400000 < rawHardness p f d) := by
  rw [isOver, decide_eq_true hpos, Bool.true_and]
  rfl

theorem isUnder_of_pos (hpos : 0 < f) : isUnder p f d = decide (rawHardness p f d < 100) := by
  rw [isUnder, decide_eq_true hpos, Bool.true_and]

theorem isAsymmetric_iff : isAsymmetric p dx dy = true ↔ p = .sp ∧ 5 * diagonalUsed p dx dy < (dx - dy).natAbs * 100 := by
  cases p <;> simp [isAsymmetric]

theorem isMisshapen_iff : isMisshapen p dx dy = true ↔ p = .rb ∧ dx < 5 * dy := by
  cases p <;> simp [isMisshapen]

theorem hasSpacing_iff {map : List MapEntry} {specimen : Nat} {x y : Int} :
    hasSpacing map specimen x y d = true ↔
      ∃ e ∈ map, e.specimen = specimen ∧ (x - e.x) ^ 2 + (y - e.y) ^ 2 < (3 * max d e.diag) ^ 2 := by
  simp only [hasSpacing, List.any_eq_true, Bool.and_eq_true, decide_eq_true_eq, tooClose, pow_two]

end

/-- The state that a successful pass hands over: the engine IDLE, the values known (R53, R133). -/
def measuredState (r : MeasRequest) (w : WorkItems) (s : State) : State := { s with
  meas := { run := none, summary := some (summaryOf r w (.ended .ok) none none none) }
  cycle := { s.cycle with known := { s.cycle.known with measured := some (measuredOf w) } } }

theorem exec_measurementEnd {s : State} {m : MeasRun} {w : WorkItems} {g : Granted} {j : Job} (hm : s.meas.run = some m)
    (hpass : measurePass (measCtxOf m.req s) = .finished w) (hj : s.cycleJob = some (g, j)) :
    exec .measurementEnd s = .next (settle (hardnessRecord g j (measuredOf w) (measuredState m.req w s))) := by
  have htake : takeMeasurementEnd s = measureSucceeds m.req w s := by
    simp only [takeMeasurementEnd, hm, hpass]
  have hreport : cycleMeasured (measureSucceeds m.req w s).2 (measureSucceeds m.req w s).1 =
      hardnessRecord g j (measuredOf w) (measuredState m.req w s) := by
    have hjob : (measIdle (summaryOf m.req w (.ended .ok) none none none) s).cycleJob = some (g, j) := hj
    simp only [measureSucceeds, cycleMeasured, hjob]
    rfl
  show execMeasurementEnd s = _
  simp only [execMeasurementEnd, htake, hreport]

/-- Settles O51. -/
theorem measurementEndWritesTheRecord : Obligations.MeasurementEndWritesTheRecord := by
  unfold Obligations.MeasurementEndWritesTheRecord
  intro m w g j f dx dy s hm hpass hdiags hj hforce hpos hh hhalt hp hnone hd prof d h
  have hvalues : (measuredOf w).dx = dx ∧ (measuredOf w).dy = dy := by
    rw [measuredOf, hdiags]
    exact ⟨rfl, rfl⟩
  have hdiag : diagonalUsed prof (measuredOf w).dx (measuredOf w).dy = d := by
    rw [hvalues.1, hvalues.2]; exact diagonalUsed_eq prof dx dy
  have hraw : rawHardness prof f d = h := rawHardness_eq prof f d
  have hknown : (measuredState m.req w s).cycle.known.force.getD 0 = f := by
    show s.cycle.known.force.getD 0 = f
    rw [hforce]; rfl
  have hhard : (hardnessBody j (measuredState m.req w s).cycle prof (measuredOf w) (measuredState m.req w s) g).hardness =
      some (min h 400000).toNat := by
    rw [← hraw, ← hdiag]
    exact hardnessOf_of_force hforce hpos
  obtain ⟨b, hb⟩ : ∃ b, b = hardnessBody j (measuredState m.req w s).cycle prof (measuredOf w)
    (measuredState m.req w s) g := ⟨_, rfl⟩
  obtain ⟨entry, hentry⟩ : ∃ e : MapEntry, e = {
    specimen := j.params.specimen, x := g.x, y := g.y, diag := roundHalfUp d 100, recordId := s.newRecordId } := ⟨_, rfl⟩
  have hrecord : hardnessRecord g j (measuredOf w) (measuredState m.req w s) = endPoint g j .ok b
      ((measuredOf w).offX, (measuredOf w).offY) (addMapEntry entry (measuredState m.req w s)) := by
    have hstatus : hardnessStatus b.hardness = .ok := by rw [hb, hhard]; rfl
    rw [← hstatus, hb, hentry, ← hdiag]
    rfl
  have hexec := exec_measurementEnd hm hpass hj
  rw [hrecord] at hexec
  have hended := settle_endPoint (g := g) (j := j) (st := .ok) (body := b)
    (off := ((measuredOf w).offX, (measuredOf w).offY)) (s := addMapEntry entry (measuredState m.req w s))
    (cycleJob_eq hj).2 hp (by show s.arb.head ≠ _; rw [hh]; decide) hd (fun _ => hnone)
  generalize settle (endPoint g j .ok b ((measuredOf w).offX, (measuredOf w).offY)
    (addMapEntry entry (measuredState m.req w s))) = t at hexec hended
  have hsame := hended.slot_same (cycleJob_eq hj).2
  have hresults := hended.results
  have hframe := hended.1
  refine ⟨t, b, hexec, ?_, ?_, ?_, ?_, ?_, ?_, ?_, ?_, ?_, ?_, ?_, ?_, ?_, ?_, ?_, ?_, ?_, ?_, ?_, ?_, ?_, ?_, ?_,
    fun k hk => hended.slot_ne hk, ?_, ?_⟩
  · rw [hframe]; rfl
  · rw [hframe]; rfl
  · rw [hframe]; rfl
  · rw [hframe]; rfl
  · rw [hresults]; exact forPort_withPort _ _ _
  · rw [hb]; rfl
  · rw [hb]; rfl
  · rw [hb]; rfl
  · rw [hb]; rfl
  · rw [hb]; exact hforce
  · rw [hb]; rfl
  · rw [hb]; rfl
  · rw [hb]; rfl
  · rw [hb, ← hvalues.1, ← hvalues.2]; rfl
  · rw [hb]; exact hhard
  · rw [hb, ← hraw, ← hdiag, ← isOver_of_pos hpos, ← hknown]; rfl
  · rw [hb, ← hraw, ← hdiag, ← isUnder_of_pos hpos, ← hknown]; rfl
  · rw [hb, ← hdiag, ← hvalues.1, ← hvalues.2]; exact isAsymmetric_iff
  · rw [hb, ← hvalues.1, ← hvalues.2]; exact isMisshapen_iff
  · rw [hb, ← hdiag]; exact hasSpacing_iff
  · rw [hframe, ← hentry]; exact List.getLast?_concat
  · rw [hframe]; rfl
  · rw [hsame]; rfl
  · rw [hresults]; rfl
  · rw [hframe]
    show (if s.cycle.haltOnEnd then _ else _ : Arbiter).head = _
    rw [hhalt]
    rfl

end Sys2Proof.Machine
end

section
/-! PROOFS. The window (R187, R188, R199): what a write transaction stores, and what a read transaction shows. -/

namespace Sys2Proof.Machine

/-! ## Write transactions (R188) -/

section
variable {h : HeldWrite} {start : Nat} {data : List Byte}

/-- Data inside the command block: each byte at its place, the control word as it was. -/
theorem storeAll_of_block (hlo : 4 ≤ start) (hhi : start + data.length ≤ 256) (hlen : h.block.length = 252) :
    (h.storeAll start data).ctl = h.ctl ∧ (h.storeAll start data).touched = h.touched ∧
      ∀ k, k < 252 → (h.storeAll start data).block.getD k 0 =
        if start ≤ k + 4 ∧ k + 4 < start + data.length then data.getD (k + 4 - start) 0 else h.block.getD k 0 := by
  induction data generalizing h start with
  | nil => exact ⟨rfl, rfl, fun k _ => (if_neg (by simp only [List.length_nil]; omega)).symm⟩
  | cons b bs ih =>
    rw [List.length_cons] at hhi
    have hstore : h.store start b = { h with block := h.block.set (start - 4) b } := by
      rw [HeldWrite.store, if_neg (by omega), if_pos (by omega)]
    have hall : h.storeAll start (b :: bs) = (h.store start b).storeAll (start + 1) bs := by
      cases bs with
      | nil => rfl
      | cons c cs =>
        rw [List.length_cons] at hhi
        rw [HeldWrite.storeAll, Nat.mod_eq_of_lt (by omega)]
    obtain ⟨hctl, htouched, hblock⟩ := ih (h := h.store start b) (start := start + 1) (by omega) (by omega)
      (by rw [hstore]; exact (List.length_set ..).trans hlen)
    rw [hall, hctl, htouched]
    refine ⟨by rw [hstore], by rw [hstore], fun k hk => ?_⟩
    rw [hblock k hk, List.length_cons]
    by_cases hin : start + 1 ≤ k + 4 ∧ k + 4 < start + 1 + bs.length
    · rw [if_pos hin, if_pos (by omega), show k + 4 - start = k + 4 - (start + 1) + 1 by omega, List.getD_cons_succ]
    · rw [if_neg hin, hstore]
      by_cases hk' : k + 4 = start
      · rw [if_pos (by omega), show k + 4 - start = 0 by omega, List.getD_cons_zero,
          show start - 4 = k by omega, List.getD_eq_getElem _ _ (by rw [List.length_set, hlen]; exact hk),
          List.getElem_set_self]
      · rw [if_neg (by omega), List.getD_eq_getElem _ _ (by rw [List.length_set, hlen]; exact hk),
          List.getElem_set_ne (by omega), List.getD_eq_getElem _ _ (by rw [hlen]; exact hk)]

/-- Parameters from the start of the command block on: the block's head replaced. -/
theorem storeAll_of_parameters (hhi : data.length ≤ 252) (hlen : h.block.length = 252) :
    (h.storeAll 4 data).block = data ++ h.block.drop data.length := by
  have hsize := storeAll_block_length h 4 data
  obtain ⟨-, -, hbytes⟩ := storeAll_of_block (h := h) (start := 4) (data := data) le_rfl (by omega) hlen
  refine List.ext_getElem (by rw [hsize, List.length_append, List.length_drop]; omega) fun k hk hk' => ?_
  rw [hsize, hlen] at hk
  have hbyte := hbytes k hk
  rw [List.getD_eq_getElem _ _ (by omega)] at hbyte
  rw [hbyte]
  by_cases hin : k < data.length
  · rw [if_pos (by omega), List.getElem_append_left hin, Nat.add_sub_cancel, List.getD_eq_getElem _ _ hin]
  · rw [if_neg (by omega), List.getElem_append_right (by omega), List.getElem_drop, List.getD_eq_getElem _ _ (by omega)]
    congr 1
    omega

/-- A whole control word at the start: its four bytes, then the parameters (R188, R189). -/
theorem storeAll_of_control {b tag lo hi : Byte} (hctl : h.ctl.length = 4) :
    h.storeAll 0 (b :: tag :: lo :: hi :: data) = (⟨h.block, [b, tag, lo, hi], true⟩ : HeldWrite).storeAll 4 data := by
  match hc : h.ctl, hctl with
  | [_, _, _, _], _ =>
    have hword : (((h.store 0 b).store 1 tag).store 2 lo).store 3 hi = ⟨h.block, [b, tag, lo, hi], true⟩ := by
      simp [HeldWrite.store, hc]
    rw [← hword]
    rfl

end

theorem readU_code (b tag lo hi : Byte) : readU [b, tag, lo, hi] 2 2 = lo.toNat + 256 * hi.toNat := by
  show lo.toNat + 256 * (hi.toNat + 256 * 0) = _
  omega

theorem mailbox_endTransfer (p q : Port) (s : State) : (endTransfer p s).mailbox q = s.mailbox q := rfl

theorem execWindowWrite_of_write {p : Port} {s : State} (hi lo : Byte) (data : List Byte) :
    exec (.windowWrite p (0x10 :: hi :: lo :: data)) s =
      .next (endTransfer p (writeWindow p (256 * hi.toNat + lo.toNat) data s)) := rfl

/-- Settles O32. -/
theorem windowWriteStores : Obligations.WindowWriteStores := by
  unfold Obligations.WindowWriteStores
  intro p s hlen
  refine ⟨fun start data hlo hhi => ?_, fun tag lo hi data hdata hs => ?_, fun frame hframe => ?_⟩
  · obtain ⟨hctl, htouched, hbytes⟩ := storeAll_of_block
      (h := ⟨(s.mailbox p).block, controlBytes (s.mailbox p), false⟩) hlo hhi hlen
    have hsize := storeAll_block_length ⟨(s.mailbox p).block, controlBytes (s.mailbox p), false⟩ start.toNat data
    have haddr : 256 * (0 : Byte).toNat + start.toNat = start.toNat := by
      rw [show (0 : Byte).toNat = 0 from rfl]; omega
    have hwrite : writeWindow p (256 * (0 : Byte).toNat + start.toNat) data s = s.setMailbox p { s.mailbox p with
        block := (HeldWrite.storeAll ⟨(s.mailbox p).block, controlBytes (s.mailbox p), false⟩ start.toNat data).block } := by
      rw [haddr, writeWindow]
      exact if_neg (Bool.eq_false_iff.mp htouched)
    refine ⟨_, execWindowWrite_of_write 0 start data, ?_, ?_, ?_, ?_, ?_⟩
    · rw [hwrite]; rfl
    · rw [hwrite]; exact othersKept_setMailbox p _ s
    · rw [hwrite, mailbox_endTransfer, mailbox_setMailbox]
    · rw [hwrite, mailbox_endTransfer, mailbox_setMailbox]
      exact hsize.trans hlen
    · rw [hwrite, mailbox_endTransfer, mailbox_setMailbox]
      exact hbytes
  · have hctl : (controlBytes (s.mailbox p)).length = 4 := rfl
    obtain ⟨hword, htouched, -⟩ := storeAll_of_block (h := ⟨(s.mailbox p).block, [1, tag, lo, hi], true⟩) (start := 4)
      (data := data) le_rfl (by omega) hlen
    have hblock := storeAll_of_parameters (h := ⟨(s.mailbox p).block, [1, tag, lo, hi], true⟩) hdata hlen
    have hall := storeAll_of_control (h := ⟨(s.mailbox p).block, controlBytes (s.mailbox p), false⟩) (b := 1) (tag := tag)
      (lo := lo) (hi := hi) (data := data) hctl
    have hwrite : writeWindow p (256 * (0 : Byte).toNat + (0 : Byte).toNat) (1 :: tag :: lo :: hi :: data) s =
        controlWrite p 1 tag (BitVec.ofNat 16 (lo.toNat + 256 * hi.toNat)) (s.setMailbox p { s.mailbox p with
          block := data ++ (s.mailbox p).block.drop data.length }) := by
      rw [show 256 * (0 : Byte).toNat + (0 : Byte).toNat = 0 from rfl, writeWindow, hall, hblock, hword, htouched,
        ← readU_code 1 tag lo hi]
      rfl
    rw [controlWrite_of_empty (by rw [mailbox_setMailbox]; exact hs), mailbox_setMailbox] at hwrite
    have hcode : (BitVec.ofNat 16 (lo.toNat + 256 * hi.toNat)).toNat = lo.toNat + 256 * hi.toNat := by
      have hl := lo.isLt
      have hh := hi.isLt
      rw [BitVec.toNat_ofNat, Nat.mod_eq_of_lt (by omega)]
    refine ⟨_, execWindowWrite_of_write 0 0 (1 :: tag :: lo :: hi :: data), ?_, ?_, ?_⟩
    · rw [hwrite]; rfl
    · rw [hwrite]
      exact fun q hq => (mailbox_setMailbox_ne _ hq _).trans (mailbox_setMailbox_ne s hq _)
    · rw [hwrite, mailbox_endTransfer, mailbox_setMailbox]
      exact ⟨rfl, rfl, hcode, rfl, rfl⟩
  · have hnone : spiTransaction p frame s = s := by
      match frame, hframe with
      | [], _ => rfl
      | [_], _ => rfl
      | [_, _], _ => rfl
      | cmd :: hi :: lo :: data, hframe =>
        refine if_neg fun hcmd => ?_
        rcases hframe with hframe | hframe
        · simp only [List.length_cons] at hframe; omega
        · exact hframe (congrArg some hcmd)
    show Host.Outcome.next (endTransfer p (spiTransaction p frame s)) = _
    rw [hnone]
    rfl

end Sys2Proof.Machine
end

section
/-! PROOFS. What a read transaction shows (R187, R188, R199): the regions of the status page, and the transaction in
progress. -/

namespace Sys2Proof.Machine

/-! ## Slices of the window -/

theorem slice_append {A B C : List Byte} {off k : Nat} (hA : A.length = off) (i : Nat)
    (hi : i + k ≤ B.length) : ((A ++ (B ++ C)).drop (off + i)).take k = (B.drop i).take k := by
  rw [List.drop_append, List.drop_eq_nil_of_le (by omega), List.nil_append, hA, Nat.add_sub_cancel_left,
    List.drop_append_of_le_length (by omega), List.take_append_of_le_length (by rw [List.length_drop]; omega)]

/-- The regions of the status page with their sizes, in order (R199). -/
def pageRegions (s : State) (p : Port) : List (Nat × List Byte) :=
  [(16, portRegion s p), (48, headRegion s), (32, jobRegion s), (16, cycleRegion s.cycle), (16, orderRegion s p),
    (32, turretRegion s.turret), (96, readingRegion s), (64, captureRegion s), (64, measRegion s), (32, resultRegion s p),
    (32, testRegion s.selftest), (64, [])]

/-- The sizes of the regions. -/
def pageSizes : List Nat := [16, 48, 32, 16, 16, 32, 96, 64, 64, 32, 32, 64]

theorem pageRegions_sizes (s : State) (p : Port) : (pageRegions s p).map Prod.fst = pageSizes := rfl

/-- Regions one after the other, each at its size. -/
def layRegions (rs : List (Nat × List Byte)) : List Byte := rs.flatMap fun r => fitTo r.1 r.2

theorem layRegions_length (rs : List (Nat × List Byte)) : (layRegions rs).length = (rs.map Prod.fst).sum := by
  simp [layRegions, List.length_flatMap]

theorem statusPage_eq (s : State) (p : Port) : statusPage s p = layRegions (pageRegions s p) := by
  simp only [statusPage, layRegions, pageRegions, List.flatMap_cons, List.flatMap_nil, List.append_assoc, List.append_nil]

section
variable {s : State} {p : Port}

theorem window_length (hs : (s.mailbox p).sized = true) : (window s p).length = 1024 := by
  simp only [Mailbox.sized, Bool.and_eq_true, decide_eq_true_eq] at hs
  have hpage : ((pageRegions s p).map Prod.fst).sum = 512 := by
    rw [pageRegions_sizes]; decide
  rw [window, List.length_append, List.length_append, List.length_append, hs.1, hs.2, statusPage_eq, layRegions_length,
    hpage, show (controlBytes (s.mailbox p)).length = 4 from rfl]

/-- What stands in a region of the status page, `j` its place among the regions. -/
theorem window_region (hs : (s.mailbox p).sized = true) (j : Nat) {n : Nat} {r : List Byte}
    (hr : (pageRegions s p)[j]? = some (n, r)) {off : Nat} (hoff : (pageSizes.take j).sum = off) (i k : Nat)
    (hik : i + k ≤ n) : ((window s p).drop (512 + off + i)).take k = ((fitTo n r).drop i).take k := by
  simp only [Mailbox.sized, Bool.and_eq_true, decide_eq_true_eq] at hs
  obtain ⟨hj, hget⟩ := List.getElem?_eq_some_iff.mp hr
  have hsplit : pageRegions s p = (pageRegions s p).take j ++ ((n, r) :: (pageRegions s p).drop (j + 1)) := by
    rw [← hget, ← List.drop_eq_getElem_cons hj, List.take_append_drop]
  have hbefore : (layRegions ((pageRegions s p).take j)).length = off := by
    rw [layRegions_length, List.map_take, pageRegions_sizes, hoff]
  have hwindow : window s p = (controlBytes (s.mailbox p) ++ (s.mailbox p).block ++ (s.mailbox p).response ++
      layRegions ((pageRegions s p).take j)) ++ (fitTo n r ++ layRegions ((pageRegions s p).drop (j + 1))) := by
    rw [window, statusPage_eq, layRegions, hsplit, List.flatMap_append, List.flatMap_cons, ← hsplit, layRegions, layRegions]
    simp only [List.append_assoc]
  rw [hwindow]
  refine slice_append ?_ i (by rw [fitTo_length]; exact hik)
  rw [List.length_append, List.length_append, List.length_append, hs.1, hs.2, hbefore]
  rfl

/-- Bytes of a region, given what stands before them. -/
theorem fitTo_slice {n i k : Nat} {A B C : List Byte} (hA : A.length = i) (hB : B.length = k) (hik : i + k ≤ n) :
    ((fitTo n (A ++ (B ++ C))).drop i).take k = B := by
  rw [fitTo, List.drop_take, List.take_take, Nat.min_eq_left (show k ≤ n - i by omega)]
  have happend : A ++ (B ++ C) ++ List.replicate n 0 = A ++ (B ++ (C ++ List.replicate n 0)) := by
    simp only [List.append_assoc]
  have hslice := slice_append (k := k) (A := A) (B := B) (C := C ++ List.replicate n 0) hA 0 (by omega)
  rw [happend, Nat.add_zero] at *
  rw [hslice, List.drop_zero, List.take_of_length_le hB.le]

/-! ## The transaction in progress (R188; log entry 11) -/

/-- The bytes of a transaction while the state stays. -/
def SpiTransfer.pushAll (w : List Byte) (bs : List Byte) (x : SpiTransfer) : SpiTransfer :=
  bs.foldl (fun y b => y.push w b) x

theorem foldl_spiByte {x : SpiTransfer} {bs : List Byte} {t : State} (ht : t = { s with spi := t.spi })
    (hx : forPort t.spi p = some x) :
    bs.foldl (fun v b => spiByte p b v) t = { s with spi := (bs.foldl (fun v b => spiByte p b v) t).spi } ∧
      forPort (bs.foldl (fun v b => spiByte p b v) t).spi p = some (x.pushAll (window s p) bs) ∧
      ∀ q, q ≠ p → forPort (bs.foldl (fun v b => spiByte p b v) t).spi q = forPort t.spi q := by
  induction bs generalizing t x with
  | nil => exact ⟨ht, hx, fun _ _ => rfl⟩
  | cons b bs ih =>
    have hwindow : window t p = window s p := by rw [ht]; rfl
    have hframe := spiByte_eq p b t
    have hpush := spiByte_some b hx
    rw [hwindow] at hpush
    obtain ⟨hall, hown, hothers⟩ := ih (t := spiByte p b t) (by rw [hframe, ht]) hpush
    exact ⟨hall, hown, fun q hq => (hothers q hq).trans (spiByte_ne b t hq)⟩

theorem pushAll_of_whole {w : List Byte} {x : SpiTransfer} (bs : List Byte) (h : 3 ≤ x.bytes.length) :
    x.pushAll w bs = { bytes := x.bytes ++ bs, copy := x.copy } := by
  induction bs generalizing x with
  | nil => rw [List.append_nil]; rfl
  | cons b bs ih =>
    have hpush : x.push w b = { bytes := x.bytes ++ [b], copy := x.copy } := by
      rw [SpiTransfer.push, if_neg fun hlen => by omega]
    show (x.push w b).pushAll w bs = _
    rw [ih (by rw [hpush, List.length_append]; exact Nat.le_add_right_of_le h), hpush, List.append_assoc]
    rfl

/-- The bytes of a whole frame: the copy is a read's alone. -/
theorem pushAll_frame (w : List Byte) (cmd hi lo : Byte) (data : List Byte) :
    SpiTransfer.pushAll w (cmd :: hi :: lo :: data) {} =
      { bytes := cmd :: hi :: lo :: data, copy := if cmd = 0x11 then some w else none } := by
  have hthree : SpiTransfer.pushAll w [cmd, hi, lo] {} =
      { bytes := [cmd, hi, lo], copy := if cmd = 0x11 then some w else none } := by
    simp [SpiTransfer.pushAll, SpiTransfer.push]
  have hsplit : SpiTransfer.pushAll w (cmd :: hi :: lo :: data) {} =
      (SpiTransfer.pushAll w [cmd, hi, lo] {}).pushAll w data := rfl
  rw [hsplit, hthree, pushAll_of_whole data (by exact le_rfl)]
  rfl

/-- The transaction after a whole address and some data bytes. -/
theorem transfer_of_frame (s : State) (p : Port) (cmd hi lo : Byte) (data : List Byte) :
    let u := (cmd :: hi :: lo :: data).foldl (fun v b => spiByte p b v) (spiSelect p s)
    u = { s with spi := u.spi } ∧ (∀ q, q ≠ p → forPort u.spi q = forPort s.spi q) ∧
      forPort u.spi p = some { bytes := cmd :: hi :: lo :: data, copy := if cmd = 0x11 then some (window s p) else none } := by
  intro u
  obtain ⟨hframe, hown, hothers⟩ := foldl_spiByte (s := s) (p := p) (x := {}) (bs := cmd :: hi :: lo :: data)
    (t := spiSelect p s) rfl (forPort_withPort _ _ _)
  rw [pushAll_frame] at hown
  exact ⟨hframe, fun q hq => (hothers q hq).trans (forPort_withPort_ne _ hq _), hown⟩

/-! ## The regions (R199) -/

theorem bitsOf_four (a b c d : Bool) : bitsOf [a, b, c, d] = a.toNat + 2 * b.toNat + 4 * c.toNat + 8 * d.toNat := by
  simp only [bitsOf]; omega

theorem bitsOf_three (a b c : Bool) : bitsOf [a, b, c] = a.toNat + 2 * b.toNat + 4 * c.toNat := by
  simp only [bitsOf]; omega

theorem u8_toNat (b : Byte) : u8 b.toNat = [b] := by
  show [BitVec.ofNat 8 b.toNat] = [b]
  rw [BitVec.ofNat_toNat, BitVec.setWidth_eq]

/-- The two bytes of one slot among those of all (R199). -/
theorem jobRegion_slot (s : State) (i : Slot) : ∃ A C, jobRegion s = A ++ (slotSummary s i ++ C) ∧ A.length = 2 * i.val := by
  have hlen : ∀ k : Slot, (slotSummary s k).length = 2 := fun k => by
    rw [slotSummary]; split <;> rfl
  have hslots : allSlots = allSlots.take i.val ++ (i :: allSlots.drop (i.val + 1)) := by
    fin_cases i <;> rfl
  refine ⟨(allSlots.take i.val).flatMap (slotSummary s), (allSlots.drop (i.val + 1)).flatMap (slotSummary s), ?_, ?_⟩
  · rw [jobRegion, ← List.flatMap_cons, ← List.flatMap_append, ← hslots]
  · rw [flatMap_length_of_const hlen, List.length_take, Nat.min_eq_left]
    exact i.isLt.le

/-- The four terms of a port as the status page shows them (R196, R199). -/
theorem bitsOf_attnTerms (s : State) (p : Port) : bitsOf (attnTerms s p) =
    (decide ((s.mailbox p).state = .answered)).toNat + 2 * (decide (forPort s.results.untaken p ≠ [])).toNat
      + 4 * (decide (s.settings.stagePort = p ∧ s.pendingOrder ≠ none)).toNat + 8 * (decide (s.arb.head = .halted)).toNat := by
  have hrecords : (!(forPort s.results.untaken p).isEmpty) = decide (forPort s.results.untaken p ≠ []) := by
    cases forPort s.results.untaken p <;> rfl
  rw [attnTerms, bitsOf_four, hrecords, State.pendingOrder]
  cases s.stage.order with
  | none => simp
  | some o => by_cases ho : o.status = .pending <;> simp [ho]

/-! What stands at the places of a region, where a value before it or in it may be absent. -/

theorem headRegion_holder {h : Handle} (hh : s.arb.holder = some h) :
    ((fitTo 48 (headRegion s)).drop 7).take 3 = u8 1 ++ [h] ++ u8 s.arb.burst := by
  have hsplit : headRegion s = (u8 (headCode s.arb.head) ++ u8 (waitCode s.arb.wait) ++
      optBytes 1 (fun (q : Point) => u8 (s.handle q.slot).toNat) s.grantedPoint ++
      optBytes 2 (fun (q : Point) => u16 q.index) s.grantedPoint) ++ ((u8 1 ++ [h] ++ u8 s.arb.burst) ++
      (rotationBytes s.arb.rotation ++ u8 (if s.settings.rotationOn then 0 else 1) ++ faultBytes s.arb.first ++
        faultBytes s.arb.last)) := by
    rw [headRegion, hh, optBytes, u8_toNat]
    simp only [List.append_assoc]
  rw [hsplit]
  exact fitTo_slice (by cases s.grantedPoint <;> rfl) rfl (by decide)

theorem headRegion_rotation (hrot : s.arb.rotation.length = 3) : ((fitTo 48 (headRegion s)).drop 10).take 4 =
    s.arb.rotation.map (fun x => BitVec.ofNat 8 (portNum x)) ++ u8 (1 - s.settings.rotationOn.toNat) := by
  have hmode : u8 (if s.settings.rotationOn then 0 else 1) = u8 (1 - s.settings.rotationOn.toNat) := by
    cases s.settings.rotationOn <;> rfl
  have hsplit : headRegion s = (u8 (headCode s.arb.head) ++ u8 (waitCode s.arb.wait) ++
      optBytes 1 (fun (q : Point) => u8 (s.handle q.slot).toNat) s.grantedPoint ++
      optBytes 2 (fun (q : Point) => u16 q.index) s.grantedPoint ++
      optBytes 1 (fun (h : Handle) => u8 h.toNat) s.arb.holder ++ u8 s.arb.burst) ++
      ((s.arb.rotation.map (fun x => BitVec.ofNat 8 (portNum x)) ++ u8 (1 - s.settings.rotationOn.toNat)) ++
        (faultBytes s.arb.first ++ faultBytes s.arb.last)) := by
    rw [headRegion, rotationBytes_eq, hmode]
    simp only [List.append_assoc]
  rw [hsplit]
  exact fitTo_slice (by cases s.grantedPoint <;> cases s.arb.holder <;> rfl)
    (by rw [List.length_append, List.length_map, hrot]; rfl) (by decide)

theorem fitTo_jobRegion (i : Slot) :
    ((fitTo 32 (jobRegion s)).drop (2 * i.val)).take 2 = slotSummary s i := by
  have hi := i.isLt
  obtain ⟨A, C, hjob, hA⟩ := jobRegion_slot s i
  have hlen : (slotSummary s i).length = 2 := by rw [slotSummary]; split <;> rfl
  rw [hjob, fitTo_slice hA hlen (by omega)]

theorem orderRegion_pending {o : Order} (hp : s.settings.stagePort = p) (ho : s.pendingOrder = some o) :
    orderRegion s p = [o.seq] ++ u8 (match o.kind with | .indentPos => 0 | .viewPos => 1) ++ i32 o.x ++ i32 o.y ++ u8 1 := by
  obtain ⟨horder, hstatus⟩ := Option.filter_eq_some_iff.mp ho
  have hcode : orderStatusCode (some o) = 1 := by rw [orderStatusCode, of_decide_eq_true hstatus]
  rw [orderRegion, if_pos hp, horder, orderBytes, hcode, u8_toNat] <;> rfl

theorem readingRegion_codes : ((fitTo 96 (readingRegion s)).drop 0).take 5 =
    i16 s.acq.rawForce ++ i16 s.acq.rawDepth ++ u8 s.acq.saturated.toNat := by
  have hprefix : i16 s.acq.rawForce ++ i16 s.acq.rawDepth ++ flagByte s.acq.saturated <+: readingRegion s := by
    unfold readingRegion
    simp only [List.append_assoc]
    exact (List.prefix_append_right_inj _).mpr ((List.prefix_append_right_inj _).mpr (List.prefix_append _ _))
  obtain ⟨C, hC⟩ := hprefix
  have hsplit : readingRegion s = [] ++ ((i16 s.acq.rawForce ++ i16 s.acq.rawDepth ++ flagByte s.acq.saturated) ++ C) :=
    hC.symm
  rw [hsplit]
  exact fitTo_slice rfl (by simp [flagByte]) (by decide)

theorem fitTo_nil (n : Nat) : ((fitTo n []).drop 0).take n = List.replicate n 0 := by
  rw [fitTo, List.nil_append, List.drop_zero, List.take_take, Nat.min_self, List.take_of_length_le (by simp)]

/-- A read's data bytes (R188). -/
theorem spiRead_getD {start n k : Nat} (hk : k < n) :
    (spiRead s p start n).getD k 0 = (window s p).getD ((start + k) % 65536) 0 := by
  rw [spiRead, List.getD_eq_getElem _ _ (by rw [List.length_map, List.length_range]; exact hk), List.getElem_map,
    List.getElem_range]
  rfl

end

/-- Settles O33. -/
theorem readsShowTheWindow : Obligations.ReadsShowTheWindow := by
  unfold Obligations.ReadsShowTheWindow
  intro p s hs m at' bit
  have hsize := hs
  simp only [Mailbox.sized, Bool.and_eq_true, decide_eq_true_eq] at hsize
  obtain ⟨hblock, hresponse⟩ := hsize
  have hport := window_region hs 0 rfl (off := 0) (by decide)
  have hhead := window_region hs 1 rfl (off := 16) (by decide)
  have hjobs := window_region hs 2 rfl (off := 64) (by decide)
  have hcycle := window_region hs 3 rfl (off := 96) (by decide)
  have horder := window_region hs 4 rfl (off := 112) (by decide)
  have hturret := window_region hs 5 rfl (off := 128) (by decide)
  have hreading := window_region hs 6 rfl (off := 160) (by decide)
  have hcapture := window_region hs 7 rfl (off := 256) (by decide)
  have hmeas := window_region hs 8 rfl (off := 320) (by decide)
  have hresult := window_region hs 9 rfl (off := 384) (by decide)
  have htest := window_region hs 10 rfl (off := 416) (by decide)
  have hlast := window_region hs 11 rfl (off := 448) (by decide)
  have hword : window s p = [] ++ (controlBytes m ++ (m.block ++ (m.response ++ statusPage s p))) := by
    simp only [window, List.append_assoc, List.nil_append]; rfl
  have hbox : window s p = controlBytes m ++ (m.block ++ (m.response ++ statusPage s p)) := by
    rw [hword, List.nil_append]
  have hanswer : window s p = (controlBytes m ++ m.block) ++ (m.response ++ statusPage s p) := by
    rw [hbox, List.append_assoc]
  refine ⟨window_length hs, ?_, ?_, ?_, ?_, ?_, ?_, ?_, ?_, ?_, ?_, ?_, ?_, ?_, ?_, ?_, ?_, ?_, ?_, ?_, ?_, ?_, ?_, ?_⟩
  · show ((window s p).drop 0).take 4 = _
    rw [hword]
    exact (slice_append (k := 4) (A := []) rfl 0 (by exact le_rfl)).trans (by
      rw [List.drop_zero, List.take_of_length_le (by exact le_rfl), controlBytes, u8_toNat]; rfl)
  · show ((window s p).drop 4).take 252 = _
    rw [hbox]
    exact (slice_append (k := 252) (A := controlBytes m) rfl 0 (by rw [hblock])).trans (by
      rw [List.drop_zero, List.take_of_length_le hblock.le])
  · show ((window s p).drop 256).take 256 = _
    rw [hanswer]
    exact (slice_append (k := 256) (A := controlBytes m ++ m.block) (off := 256) (by
      rw [List.length_append, hblock]; rfl) 0 (by rw [hresponse])).trans (by
      rw [List.drop_zero, List.take_of_length_le hresponse.le])
  · refine (hport 0 16 (by decide)).trans ?_
    rw [portRegion, bitsOf_attnTerms]
    rfl
  · exact (hhead 0 2 (by decide)).trans rfl
  · intro g hg
    refine (hhead 2 5 (by decide)).trans ?_
    rw [headRegion, hg]
    rfl
  · intro hg
    refine (hhead 2 5 (by decide)).trans ?_
    rw [headRegion, hg]
    rfl
  · exact fun h hh => (hhead 7 3 (by decide)).trans (headRegion_holder hh)
  · exact fun hrot => (hhead 10 4 (by decide)).trans (headRegion_rotation hrot)
  · intro i
    refine (hjobs (2 * i.val) 2 (by omega)).trans ((fitTo_jobRegion i).trans ?_)
    rw [slotSummary]
    cases (s.slot i).job with
    | none => rfl
    | some j => simp only [bitsOf_four]; rfl
  · refine (hcycle 1 1 (by decide)).trans ?_
    rw [cycleRegion, bitsOf_three]
    rfl
  · intro hother
    refine (horder 0 16 (by decide)).trans ?_
    rw [orderRegion, if_neg hother]
    rfl
  · intro o hp ho
    refine (horder 0 11 (by decide)).trans ?_
    rw [orderRegion_pending hp ho]
    rfl
  · intro n hn
    refine (hturret 0 3 (by decide)).trans ?_
    rw [turretRegion, Turret.parked?, hn]
    rfl
  · exact (hreading 0 5 (by decide)).trans readingRegion_codes
  · exact (hcapture 0 1 (by decide)).trans rfl
  · exact (hmeas 0 1 (by decide)).trans rfl
  · exact (hresult 0 2 (by decide)).trans rfl
  · exact (hresult 2 6 (by decide)).trans rfl
  · refine (htest 0 1 (by decide)).trans ?_
    rw [testRegion]
    cases s.selftest.run <;> rfl
  · exact (hlast 0 64 (by decide)).trans (fitTo_nil 64)
  · intro start n k hk
    refine ⟨by rw [spiRead, List.length_map, List.length_range], spiRead_getD hk, fun hout => ?_⟩
    rw [spiRead_getD hk, List.getD_eq_default _ _ (by rw [window_length hs]; exact hout)]
  · intro cmd hi lo data frame u
    obtain ⟨hframe, hothers, hown⟩ := transfer_of_frame s p cmd hi lo data
    refine ⟨hframe, hothers, ?_, fun v hv => ?_, ?_⟩
    · rw [spiRelease]
      exact congrArg (Option.map _) hown
    · rw [spiLine, hv, hown]
      by_cases hcmd : cmd = 0x11
      · rw [if_pos hcmd, if_pos hcmd]; rfl
      · rw [if_neg hcmd, if_neg hcmd]; rfl
    · have hnone : forPort State.reset.spi p = none := by cases p <;> rfl
      refine ⟨_, resetClears u, ?_, fun b => ?_⟩
      · rw [spiRelease]
        exact congrArg (Option.map _) hnone
      · rw [spiByte]
        rw [show forPort _ p = none from hnone]

end Sys2Proof.Machine
end

section
/-! PROOFS. The grant (R25 to R29, R39, R44): one eligible job, its oldest PENDING point granted within the command that made
it eligible. -/

namespace Sys2Proof.Machine

section
variable {s : State} {i : Slot} {j : Job} {q : Point} {qs : List Point} {g : Granted} {m : Station}

/-! ## The decision (R23, R25) -/

/-- With one eligible job and no burst holder, that job is chosen for a new grant. -/
theorem choose_of_only (honly : ∀ k, s.eligible k = true ↔ k = i) (hholder : s.arb.holder = none)
    (hrot : s.rotationWf = true) : s.choose = some (i, false) := by
  obtain ⟨hburst, hnew, hsome⟩ := choiceFollowsTheRules s
  obtain ⟨⟨k, b⟩, hk⟩ := Option.ne_none_iff_exists'.mp (hsome hrot ⟨i, (honly i).mpr rfl⟩)
  cases b with
  | true =>
    obtain ⟨-, _, -, hheld, -⟩ := hburst k hk
    rw [hholder] at hheld
    exact nomatch hheld
  | false =>
    obtain ⟨⟨heligible, -⟩, -⟩ := hnew k hk
    rw [hk, (honly k).mp heligible]

theorem makeDecision_of_choose {b : Bool} (heligible : s.eligible i = true) (hfree : s.results.free ≠ 0)
    (hc : s.choose = some (i, b)) (hj : (s.slot i).job = some j) : makeDecision s = grant i j b s := by
  have hslots : s.eligibleSlots ≠ [] := fun hnil =>
    List.filter_eq_nil_iff.mp hnil i (mem_allSlots i) heligible
  unfold makeDecision
  rw [if_neg (by simpa using hslots), if_neg hfree, hc]
  simp only [hj]

theorem settleFor_of_not_due (n : Nat) (h : s.arb.due = false) : settleFor n s = s := by
  cases n with
  | zero => exact clearDue_of_not_due h
  | succ n =>
    rw [settleFor, h, Bool.false_and, if_neg (by decide)]
    exact clearDue_of_not_due h

/-- A decision event with the head IDLE whose decision leaves none standing. -/
theorem settle_noteDecision (hh : s.arb.head = .idle) (hd : s.arb.due = false)
    (hnext : (makeDecision s).arb.due = false) : settle (noteDecision s) = makeDecision s := by
  have hnote : noteDecision s = { s with arb := { s.arb with due := true } } := if_pos hh
  have hclear : clearDue { s with arb := { s.arb with due := true } } = s := by
    show ({ s with arb := { s.arb with due := false } } : State) = s
    rw [← hd]
  have hstep : settle { s with arb := { s.arb with due := true } } =
      settleFor 16 (makeDecision (clearDue { s with arb := { s.arb with due := true } })) :=
    if_pos (by show (true && decide (s.arb.head = .idle)) = true; rw [hh]; rfl)
  rw [hnote, hstep, hclear, settleFor_of_not_due 16 hnext]

/-! ## The oldest PENDING point (R29) -/

/-- What marking the oldest PENDING point of a job changes. -/
theorem markGranted_oldest {ps : List Point} (hpend : ps.filter (fun p => p.slot = i && p.state = .pending) = q :: qs)
    (hnone : ps.find? (fun p => p.slot = i && p.state = .granted) = none) :
    (markGranted i ps).find? (fun p => p.slot = i && p.state = .granted) = some { q with state := .granted } ∧
      (markGranted i ps).filter (fun p => p.slot = i && p.state = .pending) = qs ∧ q.slot = i ∧
      ∀ k, k ≠ i → (markGranted i ps).filter (fun p => p.slot = k) = ps.filter (fun p => p.slot = k) := by
  rcases markGranted_cases i ps with ⟨-, hno⟩ | ⟨a, x, b, rfl, ha, hslot, hstate, hmark⟩
  · have hq := List.mem_filter.mp (hpend ▸ List.mem_cons_self : q ∈ _)
    exact absurd (by simpa using hq.2) (hno q hq.1)
  · have hbefore : a.filter (fun p => p.slot = i && p.state = .pending) = [] :=
      List.filter_eq_nil_iff.mpr fun p hp => by simpa using ha p hp
    rw [List.filter_append, hbefore, List.nil_append, List.filter_cons_of_pos (by simp [hslot, hstate])] at hpend
    obtain ⟨rfl, rfl⟩ := List.cons.inj hpend
    rw [List.find?_append, Option.or_eq_none_iff] at hnone
    rw [hmark]
    refine ⟨?_, ?_, hslot, fun k hk => ?_⟩
    · rw [List.find?_append, hnone.1, Option.none_or, List.find?_cons_of_pos (by simp [hslot])]
    · rw [List.filter_append, hbefore, List.nil_append, List.filter_cons_of_neg (by simp)]
    · rw [List.filter_append, List.filter_append, List.filter_cons_of_neg (by simpa [hslot] using hk.symm),
        List.filter_cons_of_neg (by simpa [hslot] using hk.symm)]

/-! ## The grant (R26, R29, R39, R44) -/

/-- The point of a grant as the cycle holds it (R39). -/
def grantedFrom (s : State) (i : Slot) (q : Point) : Granted :=
  { handle := s.handle i, slot := i, index := q.index, tag := q.tag, x := q.x, y := q.y }

/-- A grant whose station check passes, the turret PARKED and the actuator RETRACTED. -/
theorem grant_of_check (hpend : s.pendingOf i = q :: qs) (hnone : s.grantedOf i = none)
    (hcheck : stationCheck j.params (s.station j.params.indenter) (s.station j.params.objective) = true)
    (ht : s.turret.state = .parked m) (ha : s.act.state = .retracted) (hturret : s.cycle.pendTurret = false) :
    grant i j false s = { s with
      ports := (raiseTerm s.settings.stagePort s).ports, points := markGranted i s.points
      results := { s.results with reserved := s.results.reserved + 1 }
      arb := grantArb (s.handle i) j.owner false s.settings.rotationOn s.arb
      stage := {
        lastSeq := s.stage.lastSeq + 1, settleTimer := true
        order := some { seq := s.stage.lastSeq + 1, kind := .indentPos, x := q.x, y := q.y, status := .pending } }
      cycle := { s.cycle with
        state := .positioning, granted := some (grantedFrom s i q), objective := some j.params.objective, pendStage := true
        pendTurret := decide (m ≠ j.params.indenter) }
      turret := if m = j.params.indenter then s.turret else
        { s.turret with state := .rotating (startRotation m j.params.indenter .cycle), gated := 0 } } := by
  obtain ⟨hgranted, -, hslot, -⟩ := markGranted_oldest hpend hnone
  have hof : (granting i j false s).grantedOf i = some { q with state := .granted } := hgranted
  have hcopy : grantedCopy (granting i j false s) { q with state := .granted } = grantedFrom s i q := by
    rw [grantedFrom, ← hslot]
    rfl
  rw [grant_eq, hof]
  refine (if_pos (by exact hcheck)).trans ?_
  rw [hcopy, enterPositioning, askStage_eq, askTurret_of_parked (m := m) (by exact ht) (by exact ha) (by exact hturret)]
  rfl

/-- Once its job is unheld, the job of a held slot is the one that is eligible. -/
theorem eligible_unheld {u : State} (hc : j.cancelling = false) (hpend : s.pendingOf i = q :: qs)
    (hnone : s.eligibleSlots = []) (hpoints : u.points = s.points)
    (hsame : u.slot i = { s.slot i with job := some { j with held := false } }) (hne : ∀ k, k ≠ i → u.slot k = s.slot k)
    (k : Slot) : u.eligible k = true ↔ k = i := by
  by_cases hk : k = i
  · subst hk
    have hpending : u.pendingOf k = q :: qs := by rw [State.pendingOf, hpoints]; exact hpend
    simp [State.eligible, hsame, hc, hpending]
  · have hno : ¬ s.eligible k = true := List.filter_eq_nil_iff.mp hnone k (mem_allSlots k)
    have hkept : u.eligible k = s.eligible k := by simp only [State.eligible, State.pendingOf, hne k hk, hpoints]
    rw [hkept]
    exact iff_of_false hno hk

end

/-- Settles O53. -/
theorem unholdGrantsThePoint : Obligations.UnholdGrantsThePoint := by
  unfold Obligations.UnholdGrantsThePoint
  intro p i j q qs m s hp hf ho hc hheld hpend hgranted hnone hh hholder hrot hfree hd hcycle hcheck hm ha
  obtain ⟨hj, -, -⟩ := findJob_eq_some hf
  obtain ⟨w, hw⟩ : ∃ w, w = takeCommand p s := ⟨_, rfl⟩
  obtain ⟨u, hu⟩ : ∃ u, u = w.setJob i { j with held := false } := ⟨_, rfl⟩
  have hframe : u = { s with ports := w.ports, jobs := u.jobs } := by rw [hu, hw]; rfl
  have hsame : u.slot i = { s.slot i with job := some { j with held := false } } := by
    rw [hu, slot_setJob_same, hw]; rfl
  have hne : ∀ k, k ≠ i → u.slot k = s.slot k := fun k hk => by rw [hu, slot_setJob_ne hk, hw]; rfl
  have hpoints : u.points = s.points := by rw [hframe]
  have harb : u.arb = s.arb := by rw [hframe]
  have hhandle : u.handle i = s.handle i := by rw [State.handle, hsame]; rfl
  have honly := eligible_unheld hc hpend hnone hpoints hsame hne
  have hrun := runCommand_of_posted (fun blk => withLiveJob p (handleAt blk) unholdOn) hp
  rw [← hw, withLiveJob_of_live (s := w) (by rw [hw]; exact hf) ho hc] at hrun
  have hbefore : w.eligible i = false := by
    have hkept : w.eligible i = s.eligible i := by rw [hw]; rfl
    rw [hkept, State.eligible, hj]
    simp [hheld]
  have hnote : noteEligible i (w.eligible i) u = noteDecision u := if_pos (by rw [hbefore, (honly i).mpr rfl]; rfl)
  have hdecision := makeDecision_of_choose ((honly i).mpr rfl) (by rw [hframe]; exact hfree)
    (choose_of_only honly (by rw [harb]; exact hholder) (by rw [hframe]; exact hrot)) (by rw [hsame])
  rw [grant_of_check (m := m) (by rw [State.pendingOf, hpoints]; exact hpend)
    (by rw [State.grantedOf, hpoints]; exact hgranted) (by rw [hframe]; exact hcheck) (by rw [hframe]; exact hm)
    (by rw [hframe]; exact ha) (by rw [hframe]; rw [hcycle])] at hdecision
  have hsettled := settle_noteDecision (by rw [harb]; exact hh) (by rw [harb]; exact hd)
    (by rw [hdecision]; show u.arb.due = false; rw [harb]; exact hd)
  rw [hdecision] at hsettled
  have hunhold : unholdOn i j w = (settle (noteDecision u), .ok []) := by rw [unholdOn, ← hu, hnote]
  rw [hunhold, hsettled] at hrun
  have hmail : ∀ P : PerPort Mailbox, P = (raiseTerm u.settings.stagePort u).ports →
      { forPort P p with pulseActive := false, pulseScheduled := false } =
        { { s.mailbox p with state := .working } with pulseActive := false, pulseScheduled := false } := fun P hP => by
    have hbox : u.mailbox p = { s.mailbox p with state := .working } := by
      rw [hu, hw]; exact mailbox_takeCommand p s
    rw [hP, ← hbox]
    exact pulsedOnly_raiseTerm _ u p
  obtain ⟨htframe, htold, -⟩ := answer_told (p := p) (r := .ok []) (s := s) (u := { u with
    ports := (raiseTerm u.settings.stagePort u).ports, points := markGranted i u.points
    results := { u.results with reserved := u.results.reserved + 1 }
    arb := grantArb (u.handle i) j.owner false u.settings.rotationOn u.arb
    stage := {
      lastSeq := u.stage.lastSeq + 1, settleTimer := true
      order := some { seq := u.stage.lastSeq + 1, kind := .indentPos, x := q.x, y := q.y, status := .pending } }
    cycle := { u.cycle with
      state := .positioning, granted := some (grantedFrom u i q), objective := some j.params.objective, pendStage := true
      pendTurret := decide (m ≠ j.params.indenter) }
    turret := if m = j.params.indenter then u.turret else
      { u.turret with state := .rotating (startRotation m j.params.indenter .cycle), gated := 0 } }) (hmail _ rfl)
  obtain ⟨t, ht⟩ : ∃ t, t = runCommand 0x0104 p (fun blk => withLiveJob p (handleAt blk) unholdOn) s := ⟨_, rfl⟩
  rw [← hrun, ← ht] at htframe htold
  obtain ⟨hoftGranted, hoftPending, -, hoftOther⟩ := markGranted_oldest hpend hgranted
  have htpoints : t.points = markGranted i s.points := by rw [htframe, hpoints]
  have hcopy : grantedFrom u i q = grantedFrom s i q := by rw [grantedFrom, hhandle]; rfl
  refine ⟨t, congrArg Host.Outcome.next ht.symm, ?_, ?_, fun k hk => ?_, ?_, ?_, fun k hk => ?_, ?_, ?_, ?_, ?_, fun hm' => ?_,
    fun hm' => ?_, htold⟩
  · rw [htframe, hframe]
  · rw [htframe]; exact hsame
  · rw [htframe]; exact hne k hk
  · rw [State.grantedOf, htpoints]; exact hoftGranted
  · rw [State.pendingOf, htpoints]; exact hoftPending
  · rw [State.pointsOf, htpoints]; exact hoftOther k hk
  · rw [htframe, hframe]
  · rw [htframe]
    show grantArb (u.handle i) j.owner false u.settings.rotationOn u.arb = _
    rw [hhandle, harb, ho, hframe]
    rfl
  · rw [htframe]
    show ({ u.cycle with
      state := .positioning, granted := some (grantedFrom u i q), objective := some j.params.objective, pendStage := true
      pendTurret := decide (m ≠ j.params.indenter) } : Cycle) = _
    rw [hcopy, hframe]
    rfl
  · rw [htframe, hframe]
  · rw [htframe]
    show (if m = j.params.indenter then u.turret else _) = _
    rw [if_pos hm', hframe]
  · refine ⟨startRotation m j.params.indenter .cycle, ?_, rfl, rfl, rfl⟩
    rw [htframe]
    show (if m = j.params.indenter then u.turret else _) = _
    rw [if_neg hm', hframe]

end Sys2Proof.Machine
end
